-- ==== Sys2Proof/Word.lean ====
section
/-! DEFINITION. The words of the GS-240: bytes of frames, records and the flash, the 16-bit numbers that wrap (round
number, index count, CRC) and the 32-bit strip counters. -/

namespace Sys2Proof

/-- One byte of a frame, a record, the plan image or the flash. -/
abbrev Byte := BitVec 8

/-- A 16-bit number that wraps: the round number, the index count, a CRC (00_scope, Conventions). -/
abbrev Half := BitVec 16

/-- A 32-bit number that wraps: a strip counter of the table (R46). -/
abbrev Quad := BitVec 32

end Sys2Proof
end

