-- ==== Sys2Proof/Config.lean ====
section
/-! DEFINITION. What one implementation fixes. First the free values: constants with no body, for what the manual leaves
open; no proof can see their values. Then the capacities and limits the manual states as numbers. -/

namespace Sys2Proof

/-- The whole seconds the takt timer shows as remaining while it is RUNNING (R73, R165). The model holds no clock: the
argument is the model's own counter. The value shown is never above the takt limit (assumption 3). -/
opaque Config.taktShown : Nat → Nat

/-- The takt seconds shown while no plan gives a takt limit: the manual shows the full limit in STOPPED and states no value
without one (assumption 3). -/
opaque Config.taktNoPlan : Nat

/-- What a record, header or mark program that fails, or is cut short by loss of power, leaves in one flash byte: the
arguments are the model's own counter and the address (assumption 7). -/
opaque Config.failedProgram : Nat → Nat → Byte

/-- What a block erase that fails, or is cut short by loss of power, leaves in one flash byte (assumption 7). -/
opaque Config.failedErase : Nat → Nat → Byte

/-- The blank columns before a field of the strip map's header row (R166): the arguments are the field's number and the
characters of all fields. The manual gives what the row shows and in what order, not in which columns (assumption 5). -/
opaque Config.mapHeaderGap : Nat → Nat → Nat

/-- The word the header row shows for a phase code that section 11.2 does not define (assumption 5). -/
opaque Config.otherPhaseWord : Nat → List Byte

/-- The glyph of a unit entry that meets no line of the table of R166, by the state codes and progress of its groups (assumption
5). -/
opaque Config.otherGlyph : List (Nat × Nat) → Byte

/-- The text of the strip map's legend row 6 (R166), a fixed text the manual does not write out (assumption 5). -/
opaque Config.legendRow : List Byte

/-- The blank columns before a field of an alarm area row (R169): the arguments are the field's number and the characters of
all fields. The manual gives what the row shows and in what order, not in which columns (assumption 5). -/
opaque Config.alarmGap : Nat → Nat → Nat

/-- The names of the failed self-check items as the status line shows them in HELD_CHECK (R165, assumption 5). -/
opaque Config.failedNames : List Nat → List Byte

/-- Places in the outgoing note queue (R19). -/
def Config.queuePlaces : Nat := 24
/-- Notes in one frame (R5, R20). -/
def Config.frameNotes : Nat := 12
/-- Characters of the longest readable frame, sync characters and end marker included (R2). -/
def Config.frameChars : Nat := 640
/-- Consecutive silent slots that make a station absent (R13). -/
def Config.absentSlots : Nat := 3
/-- Consecutive own slots without a frame read back whole that make a transmit failure (R18). -/
def Config.sendFailures : Nat := 3
/-- Slot ends of the join watch (R33). -/
def Config.joinSlots : Nat := 8
/-- Slot ends of the RESYNC watch (R59). -/
def Config.resyncSlots : Nat := 24
/-- Sections of the cell table (R48). -/
def Config.sections : Nat := 14
/-- Entries of the own claim list (R62). -/
def Config.ownClaims : Nat := 2
/-- Entries of the skip request list (R62). -/
def Config.skipRequests : Nat := 4
/-- Entries of the untestable list (R110). -/
def Config.untestables : Nat := 4
/-- Entries of the trace ring (R141). -/
def Config.ringEntries : Nat := 64
/-- Records in the write queue (R148). -/
def Config.writeRecords : Nat := 8
/-- Retractions in the retraction list (R157). -/
def Config.retractions : Nat := 4
/-- Blocks of the flash (R149). -/
def Config.flashBlocks : Nat := 64
/-- Bytes of one flash block, 64 KiB (R149). -/
def Config.blockBytes : Nat := 65536
/-- Record slots of one flash block (R149). -/
def Config.blockSlots : Nat := 1023
/-- FREE blocks kept in reserve (R151). -/
def Config.reserveBlocks : Nat := 2
/-- The highest record number (R147). -/
def Config.lastNumber : Nat := 0xFFFFFFFE
/-- RECORD notes in the fetch output queue (R158). -/
def Config.fetchRecords : Nat := 4
/-- Bytes of the staging buffer (R28). -/
def Config.stagingBytes : Nat := 3962
/-- Entries of the alarm list (R169). -/
def Config.alarmEntries : Nat := 8
/-- Bytes of the text queue (R172). -/
def Config.textBytes : Nat := 96
/-- Keys in the key queue (R176). -/
def Config.keyPlaces : Nat := 8
/-- Rows of the screen and cells of a row (R165). -/
def Config.screenRows : Nat := 20
def Config.screenCols : Nat := 64
/-- Lines of the message history (R173). -/
def Config.historyLines : Nat := 32

end Sys2Proof
end

