-- ==== Sys2Proof/Syntax.lean ====
section
/-! DEFINITION. The commands of the GS-240, one constructor per row of spec/opcode_table.json, with what each carries from
the outside: the characters of a frame, a completion of the head drive, the levels of the track and elevator sensors. -/

namespace Sys2Proof

/-- The roles of R3. A GS-240 is strapped BOND or PULL and never reports GATEWAY (R24). -/
inductive Role where
  | bond | pull | gateway
  deriving DecidableEq, Repr

/-- The five straps (R24). -/
structure Straps where
  stn : Nat
  role : Role
  feed : Bool
  unload : Bool
  storeLock : Bool
  deriving DecidableEq, Repr

/-- The items of the self-check (R25), in the order of its list. -/
inductive CheckItem where
  | replicaMemory | linkBuffers | linkPath | recordMemory | planBuffer | screenMemory
  deriving DecidableEq, Repr

/-- The three sensors of one elevator (section 7.4). -/
structure ElevLevels where
  present : Bool
  home : Bool
  occupied : Bool
  deriving DecidableEq, Repr

/-- The levels of the track and elevator lines as they stand when a command arrives (sections 7.2 to 7.4); `beamJam` that the
beam drive reports a jam (R127). -/
structure Levels where
  clampOpen : Bool
  clampClosed : Bool
  beamHome : Bool
  beamJam : Bool
  transferMoved : Bool
  input : ElevLevels
  good : ElevLevels
  reject : ElevLevels
  deriving DecidableEq, Repr

/-- The three magazines and their elevators (R45, section 7.4). -/
inductive MagName where
  | input | good | reject
  deriving DecidableEq, Repr

/-- The two pushers (R132, R136). -/
inductive PusherName where
  | input | output
  deriving DecidableEq, Repr

/-- The four arrow keys (R167). -/
inductive Arrow where
  | up | down | left | right
  deriving DecidableEq, Repr

/-- Break modes (R87, R179); NONE stands for a result with no pull. -/
inductive BreakMode where
  | none | neck | span | heel | ballLift | stitchLift | padPeel
  deriving DecidableEq, Repr

/-- The four measurements a DONE for WIRE carries (R87). -/
structure Meas where
  height : Nat
  deform : Nat
  energy : Nat
  time : Nat
  deriving DecidableEq, Repr

/-- Completion kinds (R87). The measurements of DONE are read only when it answers a WIRE. -/
inductive Completion where
  | done (m : Meas)
  | nsop | nsol | noBall | shortTail | wireOut | overtravel | headFault
  | pulled (force : Nat) (mode : BreakMode)
  | hookMiss | pullFault
  deriving DecidableEq, Repr

/-- The conditions of a HEAD_ALERT (R88). -/
inductive AlertKind where
  | wireOut | headFault
  deriving DecidableEq, Repr

/-- The commands of the block, one constructor per row of spec/opcode_table.json, in the table's order. A frame is given
by its characters from the first one heard to the last before its end marker; `lv` are the sensor levels at that moment. -/
inductive Instr where
  | powerOn (straps : Straps) (lv : Levels)
  | selfCheckEnd (failed : List CheckItem)
  | storeMountEnd (answered : Bool)
  | quietTimerExpiry
  | readableFrameEnd (chars : List Byte) (lv : Levels)
  | unreadableFrameEnd (lv : Levels)
  | frameIdleEnd (lv : Levels)
  | slotSilence (lv : Levels)
  | stationAbsent (lv : Levels)
  | frameBuild
  | sendDeadlineMissed
  | readBackMismatch
  | transmitFailure (lv : Levels)
  | freshStart (lv : Levels)
  | resyncWatchExpiry (lv : Levels)
  | taktExpiry
  | clampWaitExpiry
  | headCompletion (tag : Byte) (c : Completion)
  | headTimeout
  | headAlert (a : AlertKind)
  | keyPress (code : Byte)
  | keyAck
  | keyPause
  | keyResume
  | keyClear (lv : Levels)
  | keySpool
  | keyHoldRel
  | keySkip
  | keyArrow (dir : Arrow)
  | keySeated
  | keyRemoved
  | keyMsgUp
  | keyMsgDown
  | keyMsgClr
  | printableByte
  | newLine
  | home
  | clearHistory
  | clearToEndOfLine
  | column
  | emphasisOn
  | emphasisOff
  | backspace
  | wrapOff
  | wrapOn
  | scrollOff
  | scrollOn
  | ignoredControl
  | rowSend
  | rowSendDone
  | clampOpenSensed (lv : Levels)
  | clampOpenLimit
  | clampClosedSensed (lv : Levels)
  | clampCloseLimit
  | beamDone (lv : Levels)
  | beamJam (lv : Levels)
  | beamTimeout (lv : Levels)
  | beamHomeSensed (lv : Levels)
  | magazineInserted (m : MagName) (lv : Levels)
  | magazineRemoved (m : MagName) (lv : Levels)
  | elevatorStep (m : MagName) (lv : Levels)
  | pushStart (p : PusherName)
  | pushDone (p : PusherName)
  | pushJam (p : PusherName)
  | pushLimit (p : PusherName)
  | flashOpStart
  | recordProgramDone
  | recordProgramFail
  | headerProgramDone
  | headerProgramFail
  | eraseDone
  | eraseFail
  | badMarkProgramDone (completed : Bool)
  | retractionDone (readBack : Byte)
  | recordReadDone
  | frameBegin
  deriving DecidableEq, Repr

end Sys2Proof
end

