-- ==== Sys2Proof/WellFormed.lean ====
section
/-! DEFINITION. Which commands are well formed: every operand lies in the range the manual gives it. The machine answers
every command, well formed or not; the check says which ones the outside can send. -/

namespace Sys2Proof

/-- A GS-240 is strapped to a station number 0 to 7 and to the bond or pull role (R24). -/
def Straps.wf (x : Straps) : Bool := decide (x.stn < 8) && x.role != .gateway

/-- The ranges of the four measurements (R87). -/
def Meas.wf (m : Meas) : Bool :=
  decide (m.height ≤ 65535) && decide (m.deform ≤ 255) && decide (m.energy ≤ 65535) && decide (m.time ≤ 255)

/-- A PULLED carries a force up to 65,535 mN and a break mode other than NONE (R87). -/
def Completion.wf : Completion → Bool
  | .done m => m.wf
  | .pulled force mode => decide (force ≤ 65535) && mode != .none
  | _ => true

/-- The clamp does not report open and closed at once (section 7.2). -/
def Levels.wf (lv : Levels) : Bool := !(lv.clampOpen && lv.clampClosed)

/-- The levels a command carries, if it carries any. -/
def Instr.levels : Instr → Option Levels
  | .powerOn _ lv | .readableFrameEnd _ lv | .unreadableFrameEnd lv | .frameIdleEnd lv | .slotSilence lv
  | .stationAbsent lv | .transmitFailure lv | .freshStart lv | .resyncWatchExpiry lv | .keyClear lv
  | .clampOpenSensed lv | .clampClosedSensed lv | .beamDone lv | .beamJam lv | .beamTimeout lv | .beamHomeSensed lv
  | .magazineInserted _ lv | .magazineRemoved _ lv | .elevatorStep _ lv => some lv
  | _ => none

/-- The operands that are not levels lie in their ranges. A frame begins with a character heard (R2); the failed items of
a self-check are distinct (R25). -/
def Instr.operandsWf : Instr → Bool
  | .powerOn x _ => x.wf
  | .selfCheckEnd failed => decide failed.Nodup
  | .readableFrameEnd chars _ => !chars.isEmpty
  | .headCompletion _ c => c.wf
  | .clampOpenSensed lv => lv.clampOpen
  | .clampClosedSensed lv => lv.clampClosed
  | .beamJam lv => lv.beamJam
  | .beamHomeSensed lv => lv.beamHome
  | _ => true

/-- The well-formed commands. -/
def Instr.wf (i : Instr) : Bool := i.operandsWf && (i.levels.map Levels.wf).getD true

end Sys2Proof
end

