-- ==== Sys2Proof/Machine/State.lean ====
section
/-! DEFINITION. The state of the GS-240: the types of everything its blocks hold, the machine's State, and the state right
after reset. -/

namespace Sys2Proof.Machine

/-! ## The cell link: headers, notes, roster, queue (chapters 1 and 11) -/

/-- Station states (01_the_cell_link, R9 to R15). -/
inductive StState where
  | listen | joining | active | resync | heldCheck
  deriving DecidableEq, Repr

/-- The nine header flags of R3, in the order of R178. -/
structure HFlags where
  feed : Bool
  unload : Bool
  voteYes : Bool
  inReady : Bool
  outReady : Bool
  textReady : Bool
  planWanted : Bool
  checkPassed : Bool
  noTable : Bool
  deriving DecidableEq, Repr

/-- A roster entry (R12). -/
structure RosterEntry where
  present : Bool
  last : Option StState
  role : Option Role
  flags : HFlags
  planId : Nat
  vote : Bool
  silent : Nat
  deriving DecidableEq, Repr

/-- The fields of a PULL_RESULT note (R115, R179), as codes; bonding station 0xFF is none. -/
structure PullNote where
  win : Nat
  strip : Nat
  unit : Nat
  group : Nat
  wire : Nat
  bonder : Nat
  cls : Nat
  force : Nat
  mode : Nat
  verdict : Nat
  deriving DecidableEq, Repr

/-- The fields of a FETCH note after its target (R159, R179). -/
structure FetchNote where
  tag : Nat
  first : Nat
  last : Nat
  kinds : Nat
  strip : Nat
  verdicts : Nat
  cmp : Nat
  value : Nat
  skip : Nat
  max : Nat
  deriving DecidableEq, Repr

/-- The note kinds (R5, R179). Fields are the numbers the bytes carry, codes not defined included, since such a note is
judged by its owner (R179). -/
inductive Note where
  | claim (win unit group : Nat)
  | done (win unit group outcome : Nat)
  | release (win unit group progress : Nat)
  | skip (win unit : Nat)
  | holdOff (cls : Nat)
  | indexStart
  | indexDone (count shift : Nat)
  | clampOpen (win : Nat)
  | indexFault (cause win : Nat)
  | pullResult (p : PullNote)
  | load (slot strip : Nat)
  | unload (strip verdict slot : Nat)
  | magazine (mag event : Nat) (slots : List Nat)
  | writeOff (strip position slot : Nat)
  | plan (id offset : Nat) (bytes : List Byte)
  | restart (target : Nat)
  | text (target : Nat) (bytes : List Byte)
  | fetch (target : Nat) (f : FetchNote)
  | cancel (target tag : Nat)
  | retract (target tag number : Nat)
  | record (target tag : Nat) (bytes : List Byte)
  | fetchEnd (target tag code matches_ last lost bad : Nat)
  | answer (target tag code : Nat)
  deriving DecidableEq, Repr

/-- The blocks that add notes to the outgoing queue by request (R19). -/
inductive Producer where
  | wsc | tmu | rcu
  deriving DecidableEq, Repr

/-- A place of the outgoing note queue (R19). -/
structure QNote where
  note : Note
  producer : Producer
  inFlight : Bool
  deriving DecidableEq, Repr

/-- A readable frame (R3 to R5): header, section number with its body, notes. -/
structure Frame where
  sender : Nat
  round : Half
  planId : Nat
  state : StState
  role : Role
  flags : HFlags
  digest : Half
  sec : Option (Nat × List Byte)
  notes : List Note
  deriving DecidableEq, Repr

/-- The quiet timer (R14). `due` is the timer expired while a frame was being heard: the station waits for its end. -/
inductive Quiet where
  | stopped | running | due
  deriving DecidableEq, Repr

/-- What is on the line as this station takes part in it (R2, R11, R16): idle, a frame being heard, its own frame being
sent (the characters before the end marker), or its own fragment after a read-back mismatch. -/
inductive Line where
  | idle
  | hearing
  | sending (chars : List Byte)
  | fragment
  deriving DecidableEq, Repr

/-- The Link Controller (chapter 1). -/
structure Lnk where
  st : StState
  silenced : Bool
  quiet : Quiet
  slot : Nat
  round : Half
  roster : List RosterEntry
  queue : List QNote
  waiting : List QNote
  txFail : Nat
  line : Line
  cold : Bool
  sentRound : Option Half
  okRound : Option Half
  noSend : Bool
  deriving DecidableEq, Repr

/-! ## The plan (chapter 2) -/

/-- A wire of a group's wire list (R183). -/
structure Wire where
  site1 : Nat
  site2 : Nat
  loop : Nat
  sched : Nat
  witness : Bool
  deriving DecidableEq, Repr

/-- A group of the plan: its capillary class and its wires. -/
structure PlanGroup where
  cls : Nat
  wires : List Wire
  deriving DecidableEq, Repr

/-- A seat of the seat table; `left` is the side LEFT, `pull` the kind PULL. -/
structure Seat where
  stn : Nat
  win : Nat
  left : Bool
  pull : Bool
  cls : Nat
  deriving DecidableEq, Repr

/-- A valid bond plan (section 2.3); `stopPolicy` is the store policy STOP. -/
structure Plan where
  id : Nat
  windows : Nat
  seats : List Seat
  rows : Nat
  cols : Nat
  keepOut : Nat
  groups : List PlanGroup
  tests : List Nat
  retryLimit : Nat
  taktLimit : Nat
  headTimeout : Nat
  sample : Nat
  stopPolicy : Bool
  slotsInput : Nat
  slotsGood : Nat
  slotsReject : Nat
  stepInterval : Nat
  pitch : Nat
  minForce : List Nat
  deriving DecidableEq, Repr

/-! ## The cell table (chapter 3) -/

/-- Unit states (R42); a copied body may bring a code the field does not define (R181). -/
inductive UState where
  | opened | skipped | failed | tested
  | other (code : Nat)
  deriving DecidableEq, Repr

/-- Test states (R42). -/
inductive TState where
  | none | pending | claimed | done
  | other (code : Nat)
  deriving DecidableEq, Repr

/-- Group states (R42). -/
inductive GState where
  | pending | claimed | done | failed | unknown
  | other (code : Nat)
  deriving DecidableEq, Repr

/-- A group entry (R42). -/
structure GEntry where
  st : GState
  claimer : Option Nat
  progress : Nat
  deriving DecidableEq, Repr

/-- A unit entry (R42). -/
structure UEntry where
  st : UState
  test : TState
  tester : Option Nat
  groups : List GEntry
  deriving DecidableEq, Repr

/-- A strip record (R41). `spare` holds bits 2 to 7 of its flag byte, which no rule defines and a copied body may set
(R181). -/
structure Strip where
  id : Nat
  slot : Nat
  sampled : Bool
  pullFail : Bool
  spare : Nat
  units : List UEntry
  deriving DecidableEq, Repr

/-- Index phases (R43). -/
inductive Phase where
  | opened | moving | fault
  | other (code : Nat)
  deriving DecidableEq, Repr

/-- A magazine record (R45): presence code (0 absent, 1 present) and one slot code a slot (R179). -/
structure MagRec where
  presence : Nat
  slots : List Nat
  deriving DecidableEq, Repr

/-- The cell table (R40 to R46): W0 to W5, IN, OUT, the index record, the holds (bit 4 × station + class), the magazines
and the counters. -/
structure Table where
  win : List (Option Strip)
  railIn : Option Strip
  railOut : Option Strip
  index : Half
  phase : Phase
  clampSet : Byte
  holds : BitVec 32
  magInput : MagRec
  magGood : MagRec
  magReject : MagRec
  loaded : Quad
  good : Quad
  reject : Quad
  written : Quad
  deriving DecidableEq, Repr

/-- The Cell Table Unit (R39): the replica (or the table being gathered), the copy map, the RESYNC watch and the
refused-note count. -/
structure Ctu where
  rep : Option Table
  copied : List Bool
  watch : Option Nat
  refused : Nat
  deriving DecidableEq, Repr

/-! ## Start-up logic (chapter 2) -/

/-- Where the station stands in its start-up: the power-on self-check, step 1 of a restart (the blocks brought to rest),
the self-check of a restart, or neither. -/
inductive RunPhase where
  | selfCheck | resting | restartCheck | running
  deriving DecidableEq, Repr

/-- The start-up logic. The staging buffer lists the received bytes by offset (R28). -/
structure StartUp where
  straps : Straps
  run : RunPhase
  failed : List CheckItem
  mountEnded : Bool
  staging : List Host.Cell
  stagedId : Nat
  held : Option Plan
  ignored : Nat
  feedLost : Bool
  unloadLost : Bool
  joinWatch : Option Nat
  deriving DecidableEq, Repr

/-! ## Work Scheduler (chapters 4 and 6) -/

/-- An entry of the own claim list (R62); group 4 is a pull test; `held` is the status HELD, else QUEUED. -/
structure OwnClaim where
  win : Nat
  unit : Nat
  group : Nat
  strip : Nat
  held : Bool
  deriving DecidableEq, Repr

/-- The takt timer (R73). -/
inductive Takt where
  | stopped | running | expired
  deriving DecidableEq, Repr

/-- A skip request (R71); `sent` is the status SENT, else WAITING. -/
structure SkipReq where
  win : Nat
  strip : Nat
  unit : Nat
  sent : Bool
  deriving DecidableEq, Repr

/-- The vote record once started (R77): vetoed, and the slot numbers that have ended since. -/
structure VoteRec where
  vetoed : Bool
  ended : List Nat
  deriving DecidableEq, Repr

/-- A pull memory entry (R110). -/
structure PullMem where
  strip : Nat
  unit : Nat
  count : Nat
  deriving DecidableEq, Repr

/-- The Work Scheduler (R62, R110). -/
structure Wsc where
  claims : List OwnClaim
  takt : Takt
  vote : Bool
  skips : List SkipReq
  voteRec : Option VoteRec
  clampWait : Bool
  pulls : List PullMem
  untestable : List (Nat × Nat)
  deriving DecidableEq, Repr

/-! ## Bond Sequencer (chapter 5) -/

/-- BSQ states (R90). -/
inductive BState where
  | idle | running | finishing | paused | halted | spoolOut
  deriving DecidableEq, Repr

/-- Head positions (R90). -/
inductive HeadPos where
  | unknown | parked | atWork
  deriving DecidableEq, Repr

/-- End marks of a work list entry (R90). -/
inductive EndMark where
  | none | release | drop
  deriving DecidableEq, Repr

/-- A work list entry (R90). -/
structure WorkEntry where
  win : Nat
  unit : Nat
  group : Nat
  strip : Nat
  mark : EndMark
  deriving DecidableEq, Repr

/-- The cursor on the first work list entry (R90, R108). `idx` is the wire index, or the position in the claim's pull
list; `base` the leading entries of the pull list already resulted (R111); `started` that the claim's first wire command
has been sent; `again` that the wire in hand is to be tried again (R96, R113). -/
structure Cursor where
  idx : Nat
  base : Nat
  started : Bool
  again : Bool
  deriving DecidableEq, Repr

/-- Head commands (R86). -/
inductive HeadCmd where
  | park
  | unpark
  | wire (row col site1 site2 loop sched : Nat) (witness : Bool)
  | rethread
  | hookPull (row col site height : Nat)
  deriving DecidableEq, Repr

/-- The outstanding command with its tag and head timeout in ms (R86, R89). -/
structure Outstanding where
  cmd : HeadCmd
  tag : Byte
  timeout : Nat
  deriving DecidableEq, Repr

/-- The Bond Sequencer (R90). `enabled`: the station has left LISTEN since power-on or restart; `restPark`: the PARK of
the restart sequence has been sent (R106). -/
structure Bsq where
  st : BState
  head : HeadPos
  work : List WorkEntry
  cursor : Option Cursor
  retry : Nat
  out : Option Outstanding
  nextTag : Byte
  late : Option Byte
  alert : Option AlertKind
  stop : Bool
  enabled : Bool
  restPark : Bool
  deriving DecidableEq, Repr

/-! ## Track and Magazine Unit (chapter 7) -/

/-- Clamp states (section 7.2). -/
inductive ClampSt where
  | closed | opening | opened | closing | fault
  deriving DecidableEq, Repr

/-- Beam states (R127). -/
inductive BeamSt where
  | home | moving | fault
  deriving DecidableEq, Repr

/-- Elevator states (section 7.4). -/
inductive ElevSt where
  | noMagazine | homing | scanning | seeking | atSlot | fault
  deriving DecidableEq, Repr

/-- An elevator record (R128). `map` is the map being read, oldest slot first; `steps` the steps since homing began or
since the last slot; `waiting` that its MAGAZINE LOADED has not been applied or refused; `slots` and `pitch` the plan's
values taken when homing began. -/
structure Elev where
  st : ElevSt
  cur : Option Nat
  target : Option Nat
  map : List Bool
  steps : Nat
  waiting : Bool
  slots : Nat
  pitch : Nat
  deriving DecidableEq, Repr

/-- Pusher states (R132, R136); REPORTING holds the note it waits for. -/
inductive PushSt where
  | idle | pushing | fault
  | reporting (n : Note)
  deriving DecidableEq, Repr

/-- A pending push record (R133): the slot, and for OUTPUT the magazine and the strip id. -/
structure PendingPush where
  slot : Nat
  mag : MagName
  strip : Nat
  deriving DecidableEq, Repr

/-- A pusher with its pending push record. -/
structure Push where
  st : PushSt
  pending : Option PendingPush
  deriving DecidableEq, Repr

/-- The Track and Magazine Unit. `openTakeUp`: the opening under way was begun on taking up the duty (R124), and not by an
INDEX_START or a CLEAR (R125, R126). `feedMute`, `unloadMute`: the duty was given up otherwise than by R35, and a motion of its
hardware still under way ends with no note (R124). -/
structure Tmu where
  levels : Levels
  duty : Bool
  feedDuty : Bool
  unloadDuty : Bool
  clamp : ClampSt
  openTakeUp : Bool
  beam : BeamSt
  transfer : Bool
  beamStarted : Bool
  elInput : Elev
  elGood : Elev
  elReject : Elev
  pushIn : Push
  pushOut : Push
  missed : Nat
  feedMute : Bool
  unloadMute : Bool
  deriving DecidableEq, Repr

/-! ## Record Unit (chapters 8 and 9) -/

/-- The outcome of a trace entry (R141). -/
inductive TraceOutcome where
  | pull (stn force mode verdict : Nat)
  | notTested
  deriving DecidableEq, Repr

/-- A trace entry (R141); `writing` is the state WRITING, else WAITING. -/
structure TraceEntry where
  strip : Nat
  unit : Nat
  group : Nat
  wire : Nat
  index : Nat
  meas : Meas
  retries : Nat
  writing : Bool
  outcome : Option TraceOutcome
  deriving DecidableEq, Repr

/-- The reservation of one claim (R142). -/
structure Reservation where
  strip : Nat
  unit : Nat
  group : Nat
  count : Nat
  deriving DecidableEq, Repr

/-- A record before its number is given (R147). Kind codes and field codes as in R179 and R182. -/
structure RecBody where
  kind : Nat
  strip : Nat
  unit : Nat
  group : Nat
  wire : Nat
  index : Nat
  meas : Meas
  retries : Nat
  pullStn : Nat
  force : Nat
  mode : Nat
  verdict : Nat
  deriving DecidableEq, Repr

/-- A retraction of the retraction list (R157); `behind` is how many records of the write queue stand before it. -/
structure Retraction where
  tag : Nat
  number : Nat
  requester : Nat
  behind : Nat
  deriving DecidableEq, Repr

/-- How far the erase of an ERASING block has come: not begun, under way, or complete with its header owed (R152). -/
inductive EraseStage where
  | due | running | header
  deriving DecidableEq, Repr

/-- Block states (R149). -/
inductive BlockSt where
  | free | opened | full | bad
  | erasing (stage : EraseStage)
  deriving DecidableEq, Repr

/-- An entry of the block table (R149). `lim` is one below the first record number of the block opened after it, once one
has been (R149, R153, assumption 54). -/
structure Block where
  st : BlockSt
  erases : Nat
  seq : Option Nat
  first : Option Nat
  written : Nat
  lim : Option Nat
  deriving DecidableEq, Repr

/-- Store states (R154). -/
inductive StoreSt where
  | mounting | ready | full | fault | locked
  deriving DecidableEq, Repr

/-- Header programs owed (R148). -/
inductive Owed where
  | opening (b : Nat)
  | erased (b : Nat)
  | badMark (b : Nat)
  deriving DecidableEq, Repr

/-- The flash operation under way (R148). A record program holds its block, slot, number and the newest number before it;
`live` is cleared when the answer of a mark program or the record of a read is no longer wanted. -/
inductive FlashOp where
  | header (o : Owed)
  | record (blk slot num : Nat) (before : Option Nat)
  | mark (r : Retraction) (live : Bool)
  | read (blk slot : Nat) (live : Bool)
  | erase (blk : Nat)
  deriving DecidableEq, Repr

/-- The kind of the last port operation, for the alternation of R148. -/
inductive PortKind where
  | program | read | other
  deriving DecidableEq, Repr

/-- The running fetch (R158); `lim` is its end, `closing` the phase CLOSING. -/
structure Fetch where
  tag : Nat
  requester : Nat
  start : Nat
  lim : Nat
  kinds : Nat
  strip : Nat
  verdicts : Nat
  cmp : Nat
  value : Nat
  skip : Bool
  max : Nat
  cursor : Nat
  matches_ : Nat
  last : Nat
  lost : Nat
  bad : Nat
  closing : Bool
  deriving DecidableEq, Repr

/-- The Record Unit. -/
structure Rcu where
  ring : List TraceEntry
  resv : List Reservation
  lost : Nat
  discarded : Nat
  queue : List RecBody
  retr : List Retraction
  blocks : List Block
  store : StoreSt
  newest : Option Nat
  fails : Nat
  owed : List Owed
  port : Option FlashOp
  lastKind : PortKind
  fetch : Option Fetch
  outRec : List Note
  outEnd : Option Note
  outFlight : Nat
  deriving DecidableEq, Repr

/-! ## Operator Console Unit (chapter 10) -/

/-- A screen cell (R165): a printable character and its emphasis. -/
structure Cell where
  ch : Byte
  em : Bool
  deriving DecidableEq, Repr

/-- Alarm codes (section 10.3). -/
inductive Alarm where
  | duplicateStation | feedConflict | unloadConflict | planInvalid | planConflict | notSeated | resync
  | feedAbsent | unloadAbsent | headHalted | spoolOut | qualityHold | indexJam | clampFault | elevatorFault
  | pushFault | magInEmpty | magOutFull | storeFull | storeFault
  deriving DecidableEq, Repr

/-- States of an alarm entry (R169). -/
inductive AlarmSt where
  | raised | acked | clearedUnacked
  deriving DecidableEq, Repr

/-- An entry of the alarm list (R169). -/
structure AlarmEntry where
  code : Alarm
  st : AlarmSt
  index : Nat
  repeats : Nat
  deriving DecidableEq, Repr

/-- The Operator Console Unit. `feedAbs`, `unloadAbs`, `magIn` and `magOut` are the conditions it judges itself. -/
structure Ocu where
  screen : List (List Cell)
  changed : List Nat
  portRow : Option (Nat × List Byte)
  mapCursor : Option (Nat × Nat)
  alarms : List AlarmEntry
  overflow : Nat
  feedAbs : Bool
  unloadAbs : Bool
  magIn : Bool
  magOut : Bool
  textQ : List Byte
  textReady : Bool
  textDropped : Nat
  hist : List (List Cell)
  line : Nat
  col : Nat
  emph : Bool
  wrap : Bool
  scroll : Bool
  fullMark : Bool
  colPending : Bool
  ctlIgnored : Nat
  viewTop : Nat
  keyQ : List Byte
  keyDropped : Nat
  deriving DecidableEq, Repr

/-! ## The machine -/

/-- The state of one GS-240. `flash` lists the bytes of the record flash that are not 0xFF; `free` is the model's own
counter for free values; `pending` are the commands waiting, first in, first out. -/
structure State where
  su : StartUp
  lnk : Lnk
  ctu : Ctu
  wsc : Wsc
  bsq : Bsq
  tmu : Tmu
  rcu : Rcu
  ocu : Ocu
  flash : List Host.Cell
  free : Nat
  pending : List Instr
  deriving DecidableEq, Repr

/-- Why the block could stop. The manual stops it nowhere: the type has no constructor, so no command faults. -/
inductive Fault where
  deriving DecidableEq, Repr

/-- Why a command has no meaning. -/
inductive Refusal where
  /-- Raised by an arm of `exec` whose command has no meaning yet; no arm is left so. Safe: the run stops. -/
  | notModelled (mnemonic : String)
  deriving DecidableEq, Repr

/-- All header flags clear (R12). -/
def HFlags.clear : HFlags := ⟨false, false, false, false, false, false, false, false, false⟩

/-- A roster entry after power-on and restart (R12). -/
def RosterEntry.clear : RosterEntry := ⟨false, none, none, .clear, 0, false, 0⟩

/-- The LNK after power-on (R12, R18, R19); it is in LISTEN with no quiet timer until the self-check ends. -/
def Lnk.reset : Lnk where
  st := .listen
  silenced := false
  quiet := .stopped
  slot := 0
  round := 0
  roster := List.replicate 8 .clear
  queue := []
  waiting := []
  txFail := 0
  line := .idle
  cold := false
  sentRound := none
  okRound := none
  noSend := false

/-- The CTU after power-on (R39). -/
def Ctu.reset : Ctu := ⟨none, List.replicate Config.sections false, none, 0⟩

/-- The WSC after power-on (R62, R110). -/
def Wsc.reset : Wsc := ⟨[], .stopped, false, [], none, false, [], []⟩

/-- The BSQ after power-on (R90). -/
def Bsq.reset : Bsq := ⟨.idle, .unknown, [], none, 0, none, 0, none, none, false, false, false⟩

/-- An elevator after power-on (R124). -/
def Elev.reset : Elev := ⟨.noMagazine, none, none, [], 0, false, 0, 0⟩

/-- The TMU after power-on, its clamp and beam records by the sensors (R124, R127, R134). -/
def Tmu.reset (lv : Levels) : Tmu where
  levels := lv
  duty := false
  feedDuty := false
  unloadDuty := false
  clamp := if lv.clampClosed then .closed else .opened
  openTakeUp := false
  beam := if lv.beamHome then .home else .fault
  transfer := false
  beamStarted := false
  elInput := .reset
  elGood := .reset
  elReject := .reset
  pushIn := ⟨.idle, none⟩
  pushOut := ⟨.idle, none⟩
  missed := 0
  feedMute := false
  unloadMute := false

/-- The RCU after power-on, the mount under way (R141, R148, R153, R154, R158). The write queue and the retraction list are
empty, no header is owed, the port is free, and no block and no newest number are known before the mount ends (assumption 9). -/
def Rcu.reset : Rcu where
  ring := []
  resv := []
  lost := 0
  discarded := 0
  queue := []
  retr := []
  blocks := []
  store := .mounting
  newest := none
  fails := 0
  owed := []
  port := none
  lastKind := .other
  fetch := none
  outRec := []
  outEnd := none
  outFlight := 0

/-- A cell holding a space with emphasis off (R165). -/
def Cell.blank : Cell := ⟨0x20, false⟩

/-- The OCU after power-on (R165, R168, R169, R172 to R176). -/
def Ocu.reset : Ocu where
  screen := List.replicate Config.screenRows (List.replicate Config.screenCols .blank)
  changed := List.range Config.screenRows
  portRow := none
  mapCursor := none
  alarms := []
  overflow := 0
  feedAbs := false
  unloadAbs := false
  magIn := false
  magOut := false
  textQ := []
  textReady := true
  textDropped := 0
  hist := List.replicate Config.historyLines (List.replicate Config.screenCols .blank)
  line := 0
  col := 0
  emph := false
  wrap := true
  scroll := true
  fullMark := false
  colPending := false
  ctlIgnored := 0
  viewTop := 0
  keyQ := []
  keyDropped := 0

/-- The start-up logic after power-on: the straps sampled, the self-check running (R24, R27, R28, R35). -/
def StartUp.reset (x : Straps) : StartUp where
  straps := x
  run := .selfCheck
  failed := []
  mountEnded := false
  staging := []
  stagedId := 0
  held := none
  ignored := 0
  feedLost := false
  unloadLost := false
  joinWatch := none

/-- Every block in its power-on state (R27), with the given straps and sensor levels. -/
def State.poweredOn (x : Straps) (lv : Levels) (flash : List Host.Cell) (free : Nat) (pending : List Instr) : State where
  su := .reset x
  lnk := .reset
  ctu := .reset
  wsc := .reset
  bsq := .reset
  tmu := .reset lv
  rcu := .reset
  ocu := .reset
  flash := flash
  free := free
  pending := pending

/-- No sensor reports anything. -/
def quietLevels : Levels :=
  ⟨false, false, false, false, false, ⟨false, false, false⟩, ⟨false, false, false⟩, ⟨false, false, false⟩⟩

/-- Right after reset: power has just been applied to a station strapped 0, BOND, with no other strap set, a flash never
used, and no sensor reporting (DESIGN CHOICE, assumptions 6 and 9; the rest as R27 gives). -/
def State.reset : State := .poweredOn ⟨0, .bond, false, false, false⟩ quietLevels [] 0 []

end Sys2Proof.Machine
end

