-- ==== Sys2Proof/Machine/Operands.lean ====
section
/-! DEFINITION. Bytes and codes: the byte order of every multi-byte field, the CRC, and the codes of chapter 11. -/

namespace Sys2Proof.Machine

/-! ## Bytes -/

/-- The byte of a number, taken modulo 256. -/
def byteN (n : Nat) : Byte := BitVec.ofNat 8 n

/-- A 16-bit field, least significant byte first (00_scope, Byte order). -/
def le16 (n : Nat) : List Byte := [byteN n, byteN (n / 256)]

/-- A 32-bit field, least significant byte first. -/
def le32 (n : Nat) : List Byte := [byteN n, byteN (n / 256), byteN (n / 65536), byteN (n / 16777216)]

/-- The byte at an offset; 0 past the end, which no caller reads. -/
def rd8 (bs : List Byte) (i : Nat) : Nat := (bs.getD i 0).toNat

/-- The 16-bit field at an offset. -/
def rd16 (bs : List Byte) (i : Nat) : Nat := rd8 bs i + 256 * rd8 bs (i + 1)

/-- The 32-bit field at an offset. -/
def rd32 (bs : List Byte) (i : Nat) : Nat := rd16 bs i + 65536 * rd16 bs (i + 2)

/-- Bit `k` of a number as 0 or 1 weight: the byte of a list of flags, bit 0 first. -/
def packBits : List Bool → Nat
  | [] => 0
  | b :: bs => (if b then 1 else 0) + 2 * packBits bs

/-- A count that holds at its highest value. -/
def satAdd (lim n k : Nat) : Nat := min lim (n + k)

/-! ## The CRC (00_scope, Conventions) -/

/-- One bit of the CRC: polynomial x^16 + x^12 + x^5 + 1. -/
def crcBit (c : Half) : Half := if c.msb then (c <<< 1) ^^^ 0x1021#16 else c <<< 1

/-- One byte of the CRC, most significant bit first. -/
def crcByte (c : Half) (b : Byte) : Half :=
  crcBit <| crcBit <| crcBit <| crcBit <| crcBit <| crcBit <| crcBit <| crcBit (c ^^^ (b.zeroExtend 16 <<< 8))

/-- CRC-16 with initial value 0xFFFF, not reflected, no final XOR. -/
def crc16 (bs : List Byte) : Half := bs.foldl crcByte 0xFFFF#16

/-! ## Codes of section 11.1 and 11.2 -/

/-- Station state codes (R178); LISTEN is never sent. -/
def StState.code : StState → Nat
  | .listen => 0 | .joining => 1 | .active => 2 | .resync => 3 | .heldCheck => 4

def StState.ofCode : Nat → Option StState
  | 1 => some .joining | 2 => some .active | 3 => some .resync | 4 => some .heldCheck | _ => none

/-- Role codes (R178). -/
def roleCode : Role → Nat
  | .bond => 1 | .pull => 2 | .gateway => 3

def roleOfCode : Nat → Option Role
  | 1 => some .bond | 2 => some .pull | 3 => some .gateway | _ => none

/-- The flags field, bit 0 the feed flag (R178). -/
def HFlags.code (f : HFlags) : Nat :=
  packBits [f.feed, f.unload, f.voteYes, f.inReady, f.outReady, f.textReady, f.planWanted, f.checkPassed, f.noTable]

/-- The flags of a flags field; bits 9 to 15 are not checked (R179). -/
def HFlags.ofCode (n : Nat) : HFlags :=
  ⟨n.testBit 0, n.testBit 1, n.testBit 2, n.testBit 3, n.testBit 4, n.testBit 5, n.testBit 6, n.testBit 7, n.testBit 8⟩

/-- Unit state codes (R180). -/
def UState.code : UState → Nat
  | .opened => 0 | .skipped => 1 | .failed => 2 | .tested => 3 | .other c => c

def UState.ofCode : Nat → UState
  | 0 => .opened | 1 => .skipped | 2 => .failed | 3 => .tested | c => .other c

/-- Test state codes (R180). -/
def TState.code : TState → Nat
  | .none => 0 | .pending => 1 | .claimed => 2 | .done => 3 | .other c => c

def TState.ofCode : Nat → TState
  | 0 => .none | 1 => .pending | 2 => .claimed | 3 => .done | c => .other c

/-- Group state codes (R180). -/
def GState.code : GState → Nat
  | .pending => 0 | .claimed => 1 | .done => 2 | .failed => 3 | .unknown => 4 | .other c => c

def GState.ofCode : Nat → GState
  | 0 => .pending | 1 => .claimed | 2 => .done | 3 => .failed | 4 => .unknown | c => .other c

/-- Phase codes (R180). -/
def Phase.code : Phase → Nat
  | .opened => 0 | .moving => 1 | .fault => 2 | .other c => c

def Phase.ofCode : Nat → Phase
  | 0 => .opened | 1 => .moving | 2 => .fault | c => .other c

/-- Break mode codes (R179). -/
def modeCode : BreakMode → Nat
  | .none => 0 | .neck => 1 | .span => 2 | .heel => 3 | .ballLift => 4 | .stitchLift => 5 | .padPeel => 6

/-- Verdict codes (R179). -/
def Verdict.pass : Nat := 0
def Verdict.failLow : Nat := 1
def Verdict.failMode : Nat := 2
def Verdict.noResult : Nat := 3
def Verdict.none : Nat := 4

/-- A claimer byte or nibble with its value for none (R180). -/
def stnCode (none_ : Nat) : Option Nat → Nat
  | none => none_
  | some s => s

def stnOfCode (none_ n : Nat) : Option Nat := if n = none_ then none else some n

/-- Magazine codes of the MAGAZINE note (R179). -/
def MagName.code : MagName → Nat
  | .input => 0 | .good => 1 | .reject => 2

def MagName.ofCode : Nat → Option MagName
  | 0 => some .input | 1 => some .good | 2 => some .reject | _ => none

/-- Slot map codes (R179): EMPTY 0; FULL or FILLED 1; TAKEN 2. -/
def Slot.empty : Nat := 0
def Slot.full : Nat := 1
def Slot.taken : Nat := 2

/-- A slot map: slot i in bits 2 × (i mod 4) and up of byte i / 4 (R179). -/
def packSlots : List Nat → List Byte
  | [] => []
  | [a] => [byteN a]
  | [a, b] => [byteN (a + 4 * b)]
  | [a, b, c] => [byteN (a + 4 * b + 16 * c)]
  | a :: b :: c :: d :: r => byteN (a + 4 * b + 16 * c + 64 * d) :: packSlots r

/-- The slot codes of a slot map for `n` slots; bits beyond the slot count are not read. -/
def unpackSlots (n : Nat) (bs : List Byte) : List Nat :=
  (List.range n).map fun i => rd8 bs (i / 4) / 4 ^ (i % 4) % 4

/-- The bytes of a slot map of `n` slots. -/
def slotBytes (n : Nat) : Nat := (n + 3) / 4

/-- The numbers of the self-check items for their free names on the screen (assumption 5). -/
def CheckItem.num : CheckItem → Nat
  | .replicaMemory => 0 | .linkBuffers => 1 | .linkPath => 2 | .recordMemory => 3 | .planBuffer => 4 | .screenMemory => 5

end Sys2Proof.Machine
end

