-- ==== Sys2Proof/Machine/Plan.lean ====
section
/-! DEFINITION. What the plan says (chapter 2, R109), the reading of a plan image (R183) and its validity (R31). -/

namespace Sys2Proof.Machine

/-- Units of a strip: rows × columns. -/
def Plan.units (p : Plan) : Nat := p.rows * p.cols

/-- The highest window the plan uses, W(last). -/
def Plan.last (p : Plan) : Nat := p.windows - 1

/-- The windows W0 to W(last). -/
def Plan.wins (p : Plan) : List Nat := List.range p.windows

/-- Group count of the plan. -/
def Plan.groupCount (p : Plan) : Nat := p.groups.length

/-- Capillary class of a group. -/
def Plan.cls (p : Plan) (g : Nat) : Nat := ((p.groups[g]?).map (·.cls)).getD 0

/-- Wire count of a group. -/
def Plan.wireCount (p : Plan) (g : Nat) : Nat := ((p.groups[g]?).map (·.wires.length)).getD 0

/-- A wire of a group. -/
def Plan.wire? (p : Plan) (g i : Nat) : Option Wire := (p.groups[g]?).bind (·.wires[i]?)

/-- The seat of a station (R32). -/
def Plan.seatOf (p : Plan) (stn : Nat) : Option Seat := p.seats.find? (·.stn == stn)

/-- The seat that seats a station strapped to a role: its kind matches the strap (R32). -/
def Plan.seated (p : Plan) (x : Straps) : Option Seat :=
  (p.seatOf x.stn).filter fun t => t.pull == (x.role == .pull)

/-- The owner of a window: the lowest-numbered station seated at it (R32, R80). -/
def Plan.owner (p : Plan) (w : Nat) : Option Nat := ((p.seats.filter (·.win == w)).map (·.stn)).min?

/-- Column of a unit. -/
def Plan.col (p : Plan) (u : Nat) : Nat := u % p.cols

/-- Row of a unit. -/
def Plan.row (p : Plan) (u : Nat) : Nat := u / p.cols

/-- A strip is sampled when its id is a multiple of the sample interval (section 2.3). -/
def Plan.isSampled (p : Plan) (id : Nat) : Bool := id % p.sample == 0

/-- The witness wires of one group, by index (R109). -/
def witnessIdx (ws : List Wire) : List Nat :=
  (List.range ws.length).filter fun i => ((ws[i]?).map (·.witness)).getD false

/-- The pull list of a test unit: (group, wire index) of its witness wires, group by group (R109). -/
def Plan.pullList (p : Plan) : List (Nat × Nat) :=
  (List.range p.groupCount).flatMap fun g => (witnessIdx ((p.groups[g]?.map (·.wires)).getD [])).map fun i => (g, i)

/-- Magazine slots of a magazine. -/
def Plan.slots (p : Plan) : MagName → Nat
  | .input => p.slotsInput | .good => p.slotsGood | .reject => p.slotsReject

/-- The minimum pull force of a class. -/
def Plan.minOf (p : Plan) (c : Nat) : Nat := p.minForce.getD c 0

/-- The order in which a seat's side scans the units: columns ascending from LEFT and descending from RIGHT, and within a
column rows ascending (R66). -/
def Plan.scan (p : Plan) (left : Bool) : List Nat :=
  (if left then List.range p.cols else (List.range p.cols).reverse).flatMap fun c =>
    (List.range p.rows).map fun r => r * p.cols + c

/-! ## The plan image (R183) -/

/-- The wire entry at an offset. -/
def parseWire (bs : List Byte) (o : Nat) : Wire :=
  ⟨rd16 bs o % 32768, rd16 bs (o + 2), rd8 bs (o + 4), rd8 bs (o + 5), (rd16 bs o).testBit 15⟩

/-- The seat entry at an offset with its side and kind codes; the fill byte is not read. -/
def parseSeat (bs : List Byte) (o : Nat) : Seat × Nat × Nat :=
  (⟨rd8 bs o, rd8 bs (o + 1), rd8 bs (o + 2) == 0, rd8 bs (o + 3) == 1, rd8 bs (o + 4)⟩, rd8 bs (o + 2), rd8 bs (o + 3))

/-- `n` group entries from an offset, with the offset after them. -/
def parseGroups (bs : List Byte) : Nat → Nat → List PlanGroup × Nat
  | 0, o => ([], o)
  | n + 1, o =>
    let w := rd16 bs (o + 1)
    let r := parseGroups bs n (o + 3 + 6 * w)
    (⟨rd8 bs o, (List.range w).map fun i => parseWire bs (o + 3 + 6 * i)⟩ :: r.1, r.2)

/-- The plan an image holds. -/
def parsePlan (bs : List Byte) : Plan where
  id := rd16 bs 0
  windows := rd8 bs 4
  seats := (List.range (rd8 bs 5)).map fun i => (parseSeat bs (32 + 6 * i)).1
  rows := rd8 bs 6
  cols := rd8 bs 7
  keepOut := rd8 bs 8
  groups := (parseGroups bs (rd8 bs 9) (32 + 6 * rd8 bs 5 + rd8 bs 10)).1
  tests := (List.range (rd8 bs 10)).map fun i => rd8 bs (32 + 6 * rd8 bs 5 + i)
  retryLimit := rd8 bs 11
  taktLimit := rd16 bs 12
  headTimeout := rd16 bs 14
  sample := rd8 bs 16
  stopPolicy := rd8 bs 17 == 1
  slotsInput := rd8 bs 18
  slotsGood := rd8 bs 19
  slotsReject := rd8 bs 20
  stepInterval := rd8 bs 21
  pitch := rd16 bs 22
  minForce := [rd16 bs 24, rd16 bs 26, rd16 bs 28, rd16 bs 30]

/-- The length the counts of a plan give (R183). -/
def Plan.imageLength (p : Plan) : Nat :=
  32 + 6 * p.seats.length + p.tests.length + (p.groups.map fun g => 3 + 6 * g.wires.length).sum + 2

/-- A number lies in a range. -/
def between (lo n hi : Nat) : Bool := decide (lo ≤ n) && decide (n ≤ hi)

/-- The ranges of a wire's fields (section 2.3). -/
def Wire.valid (w : Wire) : Bool :=
  decide (w.site1 ≤ 511) && decide (w.site2 ≤ 511) && decide (w.loop ≤ 15) && decide (w.sched ≤ 31)

/-- The ranges of a seat's fields (section 2.3). -/
def Seat.valid (windows : Nat) (t : Seat) : Bool :=
  decide (t.stn ≤ 7) && decide (t.win < windows) && (if t.pull then t.cls == 0 else decide (t.cls ≤ 3))

/-- The ranges of the table of section 2.3 and the further conditions of R31 that the plan's own fields show. -/
def Plan.valid (p : Plan) : Bool :=
  between 1 p.id 65535 && between 1 p.windows 6 && between 1 p.seats.length 12 && p.seats.all (Seat.valid p.windows) &&
  between 1 p.rows 4 && between 1 p.cols 16 && decide (p.rows * p.cols ≤ 48) && decide (p.keepOut ≤ 3) &&
  between 1 p.groups.length 4 &&
  p.groups.all (fun g => decide (g.cls ≤ 3) && between 1 g.wires.length 160 && g.wires.all Wire.valid) &&
  decide (p.retryLimit ≤ 3) && between 1 p.taktLimit 60 && between 50 p.headTimeout 2000 && between 1 p.sample 255 &&
  decide (p.tests.length ≤ 4) && p.tests.all (fun u => decide (u < p.units)) &&
  p.minForce.all (fun f => between 10 f 250) && between 1 p.slotsInput 40 && between 1 p.slotsGood 40 &&
  between 1 p.slotsReject 40 && between 10 p.pitch 2000 && between 1 p.stepInterval 15 &&
  decide (p.seats.map (·.stn)).Nodup && decide (p.seats.map fun t => (t.win, t.left)).Nodup &&
  p.wins.all (fun w => p.seats.any (·.win == w)) &&
  decide ((p.seats.filter (·.pull)).length ≤ 1) &&
  (decide (p.tests.length = 0) || decide ((p.seats.filter (·.pull)).length = 1)) && decide p.tests.Nodup

/-- The complete plan of an image for a staged id, when it is valid (R31). The side, kind and policy codes are read from
the image, since the plan holds only what they mean. -/
def validPlan (stagedId : Nat) (bs : List Byte) : Option Plan :=
  let p := parsePlan bs
  let codes := (List.range (rd8 bs 5)).all fun i =>
    decide ((parseSeat bs (32 + 6 * i)).2.1 ≤ 1) && decide ((parseSeat bs (32 + 6 * i)).2.2 ≤ 1)
  if p.valid && codes && decide (rd8 bs 17 ≤ 1) && decide (p.id = stagedId) && decide (rd16 bs 2 = bs.length) &&
      decide (p.imageLength = bs.length) then some p else none

end Sys2Proof.Machine
end

