-- ==== Sys2Proof/Machine/Codec.lean ====
section
/-! DEFINITION. Byte layouts of chapter 11: notes, frames and the receive checker (R6, R178, R179), the cell table's
encoding, digest and section bodies (R47, R48, R180, R181), records and block headers (R182). -/

namespace Sys2Proof.Machine

/-! ## Notes (R179) -/

/-- The bytes of a note, its kind byte first. -/
def Note.encode : Note → List Byte
  | .claim w u g => [0x01, byteN w, byteN u, byteN g]
  | .done w u g o => [0x02, byteN w, byteN u, byteN g, byteN o]
  | .release w u g p => [0x03, byteN w, byteN u, byteN g, byteN p]
  | .skip w u => [0x04, byteN w, byteN u]
  | .holdOff c => [0x05, byteN c]
  | .indexStart => [0x06]
  | .indexDone n sh => 0x07 :: le16 n ++ [byteN sh]
  | .clampOpen w => [0x08, byteN w]
  | .indexFault c w => [0x09, byteN c, byteN w]
  | .pullResult p => [0x0A, byteN p.win] ++ le16 p.strip ++ [byteN p.unit, byteN p.group, byteN p.wire, byteN p.bonder,
      byteN p.cls] ++ le16 p.force ++ [byteN p.mode, byteN p.verdict]
  | .load sl id => [0x0B, byteN sl] ++ le16 id
  | .unload id v sl => 0x0C :: le16 id ++ [byteN v, byteN sl]
  | .magazine m e sl => [0x0D, byteN m, byteN e, byteN sl.length] ++ packSlots sl
  | .writeOff id pos sl => 0x0E :: le16 id ++ [byteN pos, byteN sl]
  | .plan id off bs => 0x20 :: le16 id ++ le16 off ++ bs
  | .restart t => [0x30, byteN t]
  | .text t bs => [0x31, byteN t, byteN bs.length] ++ bs
  | .fetch t f => [0x32, byteN t, byteN f.tag] ++ le32 f.first ++ le32 f.last ++ [byteN f.kinds] ++ le16 f.strip ++
      [byteN f.verdicts, byteN f.cmp] ++ le16 f.value ++ [byteN f.skip, byteN f.max]
  | .cancel t tag => [0x33, byteN t, byteN tag]
  | .retract t tag n => [0x34, byteN t, byteN tag] ++ le32 n
  | .record t tag bs => [0x38, byteN t, byteN tag] ++ bs
  | .fetchEnd t tag c m l lo b => [0x39, byteN t, byteN tag, byteN c, byteN m] ++ le32 l ++ le16 lo ++ le16 b
  | .answer t tag c => [0x3A, byteN t, byteN tag, byteN c]

/-- The length of the note at the head of some bytes, from its kind byte and, for TEXT and MAGAZINE, its count byte; none
for an unknown kind, and for a count above its limit (R179). -/
def noteLength (bs : List Byte) : Option Nat :=
  match rd8 bs 0 with
  | 0x01 => some 4 | 0x02 => some 5 | 0x03 => some 5 | 0x04 => some 3 | 0x05 => some 2 | 0x06 => some 1
  | 0x07 => some 4 | 0x08 => some 2 | 0x09 => some 3 | 0x0A => some 13 | 0x0B => some 4 | 0x0C => some 5
  | 0x0D => if rd8 bs 3 ≤ 40 then some (4 + slotBytes (rd8 bs 3)) else none
  | 0x0E => some 5 | 0x20 => some 21 | 0x30 => some 2
  | 0x31 => if rd8 bs 2 ≤ 24 then some (3 + rd8 bs 2) else none
  | 0x32 => some 20 | 0x33 => some 3 | 0x34 => some 7 | 0x38 => some 67 | 0x39 => some 13 | 0x3A => some 4
  | _ => none

/-- The note of a kind whose bytes, kind byte included, are given whole. -/
def noteOf (bs : List Byte) : Note :=
  match rd8 bs 0 with
  | 0x01 => .claim (rd8 bs 1) (rd8 bs 2) (rd8 bs 3)
  | 0x02 => .done (rd8 bs 1) (rd8 bs 2) (rd8 bs 3) (rd8 bs 4)
  | 0x03 => .release (rd8 bs 1) (rd8 bs 2) (rd8 bs 3) (rd8 bs 4)
  | 0x04 => .skip (rd8 bs 1) (rd8 bs 2)
  | 0x05 => .holdOff (rd8 bs 1)
  | 0x06 => .indexStart
  | 0x07 => .indexDone (rd16 bs 1) (rd8 bs 3)
  | 0x08 => .clampOpen (rd8 bs 1)
  | 0x09 => .indexFault (rd8 bs 1) (rd8 bs 2)
  | 0x0A => .pullResult ⟨rd8 bs 1, rd16 bs 2, rd8 bs 4, rd8 bs 5, rd8 bs 6, rd8 bs 7, rd8 bs 8, rd16 bs 9, rd8 bs 11,
      rd8 bs 12⟩
  | 0x0B => .load (rd8 bs 1) (rd16 bs 2)
  | 0x0C => .unload (rd16 bs 1) (rd8 bs 3) (rd8 bs 4)
  | 0x0D => .magazine (rd8 bs 1) (rd8 bs 2) (unpackSlots (rd8 bs 3) (bs.drop 4))
  | 0x0E => .writeOff (rd16 bs 1) (rd8 bs 3) (rd8 bs 4)
  | 0x20 => .plan (rd16 bs 1) (rd16 bs 3) (bs.drop 5)
  | 0x30 => .restart (rd8 bs 1)
  | 0x31 => .text (rd8 bs 1) (bs.drop 3)
  | 0x32 => .fetch (rd8 bs 1) ⟨rd8 bs 2, rd32 bs 3, rd32 bs 7, rd8 bs 11, rd16 bs 12, rd8 bs 14, rd8 bs 15, rd16 bs 16,
      rd8 bs 18, rd8 bs 19⟩
  | 0x33 => .cancel (rd8 bs 1) (rd8 bs 2)
  | 0x34 => .retract (rd8 bs 1) (rd8 bs 2) (rd32 bs 3)
  | 0x38 => .record (rd8 bs 1) (rd8 bs 2) (bs.drop 3)
  | 0x39 => .fetchEnd (rd8 bs 1) (rd8 bs 2) (rd8 bs 3) (rd8 bs 4) (rd32 bs 5) (rd16 bs 9) (rd16 bs 11)
  | _ => .answer (rd8 bs 1) (rd8 bs 2) (rd8 bs 3)

/-- One note from the head of some bytes with the bytes after it; none when the kind is unknown, a count is above its
limit, or the note would run past the end (R179). -/
def Note.decode (bs : List Byte) : Option (Note × List Byte) :=
  match bs with
  | [] => none
  | _ :: _ =>
    match noteLength bs with
    | none => none
    | some n => if n ≤ bs.length then some (noteOf (bs.take n), bs.drop n) else none

/-- As many notes as the notes count gives. -/
def parseNotes : Nat → List Byte → Option (List Note × List Byte)
  | 0, bs => some ([], bs)
  | n + 1, bs =>
    match Note.decode bs with
    | none => none
    | some (a, r) =>
      match parseNotes n r with
      | none => none
      | some (as, r') => some (a :: as, r')

/-- The classes of R5. -/
inductive NoteClass where
  | table | addressed | plan
  deriving DecidableEq, Repr

/-- The class of a note kind (R5). -/
def Note.cls : Note → NoteClass
  | .claim .. | .done .. | .release .. | .skip .. | .holdOff .. | .indexStart | .indexDone .. | .clampOpen ..
  | .indexFault .. | .pullResult .. | .load .. | .unload .. | .magazine .. | .writeOff .. => .table
  | .plan .. => .plan
  | .restart .. | .text .. | .fetch .. | .cancel .. | .retract .. | .record .. | .fetchEnd .. | .answer .. => .addressed

/-- The target of an addressed note. -/
def Note.target : Note → Option Nat
  | .restart t | .text t _ | .fetch t _ | .cancel t _ | .retract t _ _ | .record t _ _ | .fetchEnd t _ _ _ _ _ _
  | .answer t _ _ => some t
  | _ => none

/-! ## Frames (R178) and the receive checker (R6, R179) -/

/-- The section number a frame of a sender and round carries (R4). -/
def sectionNumber (round : Half) (sender : Nat) : Nat := (round.toNat + sender) % Config.sections

/-- The bytes between the sync characters and the CRC. -/
def Frame.content (f : Frame) : List Byte :=
  [byteN f.sender] ++ le16 f.round.toNat ++ le16 f.planId ++ [byteN (f.state.code + 16 * roleCode f.role)] ++
  le16 f.flags.code ++ le16 f.digest.toNat ++
  [byteN ((f.sec.map (·.1)).getD 0xFF), byteN f.notes.length] ++
  (match f.sec with
    | none => []
    | some (_, body) => le16 body.length ++ body) ++
  f.notes.flatMap Note.encode

/-- The characters of a frame before its end marker (R178). -/
def Frame.chars (f : Frame) : List Byte := [0xD5, 0x2A] ++ f.content ++ le16 (crc16 f.content).toNat

/-- The section of a frame's content, and the bytes after it (R179). -/
def parseSection (bs : List Byte) : Option (Option (Nat × List Byte) × List Byte) :=
  let n := rd8 bs 10
  let rest := bs.drop 12
  if n = 0xFF then some (none, rest)
  else if n < Config.sections && decide (2 ≤ rest.length) && decide (rd16 rest 0 ≤ rest.length - 2) then
    some (some (n, (rest.drop 2).take (rd16 rest 0)), (rest.drop 2).drop (rd16 rest 0))
  else none

/-- The section is present exactly when R4 requires it, with the number R4 gives. -/
def sectionFits (f : Frame) : Bool :=
  match f.sec with
  | none => !(f.state == .active && !f.flags.noTable)
  | some (n, _) => f.state == .active && !f.flags.noTable && n == sectionNumber f.round f.sender

/-- The frame of a content, when every field the checker reads holds a defined value and nothing is left over. -/
def parseContent (bs : List Byte) : Option Frame :=
  if bs.length < 12 then none
  else
    match StState.ofCode (rd8 bs 5 % 16), roleOfCode (rd8 bs 5 / 16), parseSection bs with
    | some st, some role, some (sec, rest) =>
      if rd8 bs 0 < 8 && decide (rd8 bs 11 ≤ Config.frameNotes) then
        match parseNotes (rd8 bs 11) rest with
        | some (notes, []) =>
          let f : Frame := ⟨rd8 bs 0, BitVec.ofNat 16 (rd16 bs 1), rd16 bs 3, st, role, .ofCode (rd16 bs 6),
            BitVec.ofNat 16 (rd16 bs 8), sec, notes⟩
          if sectionFits f then some f else none
        | _ => none
      else none
    | _, _, _ => none

/-- The receive checker (R6) on the characters of a frame that ended with the end marker: the readable frame, or none for
an unreadable one. -/
def checkFrame (chars : List Byte) : Option Frame :=
  if decide (chars.length + 1 ≤ Config.frameChars) && chars.take 2 == [0xD5, 0x2A] && decide (4 ≤ chars.length) then
    let content := (chars.drop 2).take (chars.length - 4)
    if rd16 (chars.drop (chars.length - 2)) 0 = (crc16 content).toNat then parseContent content else none
  else none

/-! ## The cell table (R180) -/

/-- The bytes of a unit entry. -/
def UEntry.encode (u : UEntry) : List Byte :=
  [byteN (u.st.code + 16 * u.test.code), byteN (stnCode 0xFF u.tester)] ++
  u.groups.flatMap fun g => [byteN (g.st.code + 16 * stnCode 0xF g.claimer), byteN g.progress]

/-- The flag byte of a strip. -/
def Strip.flagByte (t : Strip) : Byte := byteN (packBits [t.sampled, t.pullFail] + 4 * t.spare)

/-- The first part of a strip encoding: its id, input slot and flag byte. -/
def Strip.headBytes (t : Strip) : List Byte := le16 t.id ++ [byteN t.slot, t.flagByte]

/-- A strip position encoded in full. -/
def encodeStrip : Option Strip → List Byte
  | none => le16 0
  | some t => t.headBytes ++ t.units.flatMap UEntry.encode

/-- The 4 bytes of the index record. -/
def Table.indexBytes (t : Table) : List Byte := le16 t.index.toNat ++ [byteN t.phase.code, t.clampSet]

/-- A magazine as in section 13. -/
def MagRec.encode (m : MagRec) : List Byte := byteN m.presence :: (if m.presence = 1 then packSlots m.slots else [])

/-- The three magazines. -/
def Table.magBytes (t : Table) : List Byte := t.magInput.encode ++ t.magGood.encode ++ t.magReject.encode

/-- The four counters. -/
def Table.counterBytes (t : Table) : List Byte :=
  le32 t.loaded.toNat ++ le32 t.good.toNat ++ le32 t.reject.toNat ++ le32 t.written.toNat

/-- The whole table in the order of R181. -/
def Table.encode (t : Table) : List Byte :=
  t.win.flatMap encodeStrip ++ encodeStrip t.railIn ++ encodeStrip t.railOut ++ t.indexBytes ++ le32 t.holds.toNat ++
  t.magBytes ++ t.counterBytes

/-- The digest: the CRC of the whole table (R47). -/
def Table.digest (t : Table) : Half := crc16 t.encode

/-- The strip in a window. -/
def Table.win? (t : Table) (w : Nat) : Option Strip := (t.win[w]?).join

/-- The body of a section (R48, R180): 0 the index record, holds and counters; 2k+1 and 2k+2 the halves of Wk; 13 the
rails and magazines. -/
def Table.body (t : Table) (n : Nat) : List Byte :=
  if n = 0 then t.indexBytes ++ le32 t.holds.toNat ++ t.counterBytes
  else if n = 13 then
    (match t.railIn with
      | none => le16 0
      | some x => x.headBytes) ++ encodeStrip t.railOut ++ t.magBytes
  else if n % 2 = 1 then
    match t.win? (n / 2) with
    | none => le16 0
    | some x => x.headBytes ++ (x.units.take 24).flatMap UEntry.encode
  else
    match t.win? (n / 2 - 1) with
    | none => le16 0
    | some x => le16 x.id ++ (x.units.drop 24).flatMap UEntry.encode

/-- The unit entry of bytes of `g` groups. -/
def parseUnit (g : Nat) (bs : List Byte) : UEntry :=
  ⟨.ofCode (rd8 bs 0 % 16), .ofCode (rd8 bs 0 / 16), stnOfCode 0xFF (rd8 bs 1),
    (List.range g).map fun i => ⟨.ofCode (rd8 bs (2 + 2 * i) % 16), stnOfCode 0xF (rd8 bs (2 + 2 * i) / 16),
      rd8 bs (3 + 2 * i)⟩⟩

/-- `n` unit entries of `g` groups from an offset. -/
def parseUnits (g n o : Nat) (bs : List Byte) : List UEntry :=
  (List.range n).map fun i => parseUnit g (bs.drop (o + (2 + 2 * g) * i))

/-- The unit entry LOAD creates for unit `u` of a strip (R42). -/
def newUnit (p : Plan) (sampled : Bool) (u : Nat) : UEntry :=
  ⟨.opened, if sampled && p.tests.contains u then .pending else .none, none,
    List.replicate p.groupCount ⟨.pending, none, 0⟩⟩

/-- The strip record LOAD creates (R41, R42, R133). -/
def newStrip (p : Plan) (id slot : Nat) : Strip :=
  ⟨id, slot, p.isSampled id, false, 0, (List.range p.units).map (newUnit p (p.isSampled id))⟩

/-- The table of a fresh start (R33). -/
def freshTable : Table where
  win := List.replicate 6 none
  railIn := none
  railOut := none
  index := 0
  phase := .opened
  clampSet := 0
  holds := 0
  magInput := ⟨0, []⟩
  magGood := ⟨0, []⟩
  magReject := ⟨0, []⟩
  loaded := 0
  good := 0
  reject := 0
  written := 0

/-- A magazine at an offset of section 13, with the offset after it; none when it runs past the end. -/
def parseMag (slots o : Nat) (bs : List Byte) : Option (MagRec × Nat) :=
  if o < bs.length then
    if rd8 bs o = 1 then
      if o + 1 + slotBytes slots ≤ bs.length then
        some (⟨1, unpackSlots slots (bs.drop (o + 1))⟩, o + 1 + slotBytes slots)
      else none
    else some (⟨rd8 bs o, []⟩, o + 1)
  else none

/-- Section 0 of a table. -/
def takeSection0 (bs : List Byte) (t : Table) : Option Table :=
  if bs.length = 24 then
    some { t with index := BitVec.ofNat 16 (rd16 bs 0), phase := .ofCode (rd8 bs 2), clampSet := byteN (rd8 bs 3),
                  holds := BitVec.ofNat 32 (rd32 bs 4), loaded := BitVec.ofNat 32 (rd32 bs 8),
                  good := BitVec.ofNat 32 (rd32 bs 12), reject := BitVec.ofNat 32 (rd32 bs 16),
                  written := BitVec.ofNat 32 (rd32 bs 20) }
  else none

/-- Section 13 of a table: the rails and the magazines. IN's unit table is the one LOAD creates (R48). -/
def takeSection13 (p : Plan) (bs : List Byte) (t : Table) : Option Table :=
  let g := p.groupCount
  let idIn := rd16 bs 0
  let o1 := if idIn = 0 then 2 else 4
  let idOut := rd16 bs o1
  let o2 := if idOut = 0 then o1 + 2 else o1 + 4 + (2 + 2 * g) * p.units
  match parseMag p.slotsInput o2 bs with
  | none => none
  | some (mi, o3) =>
    match parseMag p.slotsGood o3 bs with
    | none => none
    | some (mg, o4) =>
      match parseMag p.slotsReject o4 bs with
      | none => none
      | some (mr, o5) =>
        if o5 = bs.length then
          some { t with
            railIn := if idIn = 0 then none
              else some { newStrip p idIn (rd8 bs 2) with
                            sampled := (rd8 bs 3).testBit 0, pullFail := (rd8 bs 3).testBit 1, spare := rd8 bs 3 / 4 }
            railOut := if idOut = 0 then none
              else some ⟨idOut, rd8 bs (o1 + 2), (rd8 bs (o1 + 3)).testBit 0, (rd8 bs (o1 + 3)).testBit 1, rd8 bs (o1 + 3) / 4,
                parseUnits g p.units (o1 + 4) bs⟩
            magInput := mi, magGood := mg, magReject := mr }
        else none

/-- The units of the part of a window that a body does not bring: those the replica holds, or those LOAD creates when it
holds no strip there. -/
def oldUnits (p : Plan) (t : Table) (w id : Nat) : List UEntry :=
  match t.win? w with
  | none => (newStrip p id 0).units
  | some x => x.units

/-- The first half of a window. -/
def takeFirstHalf (p : Plan) (w : Nat) (bs : List Byte) (t : Table) : Option Table :=
  let id := rd16 bs 0
  let n := min 24 p.units
  if id = 0 then
    if bs.length = 2 then some { t with win := t.win.set w none } else none
  else if bs.length = 4 + (2 + 2 * p.groupCount) * n then
    some { t with win := t.win.set w (some ⟨id, rd8 bs 2, (rd8 bs 3).testBit 0, (rd8 bs 3).testBit 1, rd8 bs 3 / 4,
      parseUnits p.groupCount n 4 bs ++ (oldUnits p t w id).drop 24⟩) }
  else none

/-- The second half of a window. In a window still empty it makes a strip with the flags of the plan: sampled by the id, not
failed (assumption 25). -/
def takeSecondHalf (p : Plan) (w : Nat) (bs : List Byte) (t : Table) : Option Table :=
  let id := rd16 bs 0
  let n := p.units - 24
  if id = 0 then
    if bs.length = 2 then some { t with win := t.win.set w none } else none
  else if bs.length = 2 + (2 + 2 * p.groupCount) * n then
    let old : Strip := (t.win? w).getD (newStrip p id 0)
    some { t with win := t.win.set w (some { old with
      id := id, units := old.units.take 24 ++ parseUnits p.groupCount n 2 bs }) }
  else none

/-- The replica with the part a section covers replaced by a body; none when the body has not the length the plan gives
(R52, R181). -/
def takeBody (p : Plan) (n : Nat) (bs : List Byte) (t : Table) : Option Table :=
  if n = 0 then takeSection0 bs t
  else if n = 13 then takeSection13 p bs t
  else if n % 2 = 1 then takeFirstHalf p (n / 2) bs t
  else takeSecondHalf p (n / 2 - 1) bs t

/-! ## Records and block headers (R147, R182) -/

/-- Bytes 0 to 60 of a record. -/
def RecBody.bytes61 (stn num : Nat) (r : RecBody) : List Byte :=
  le32 num ++ [byteN r.kind, byteN stn] ++ le16 r.strip ++ [byteN r.unit, byteN r.group, byteN r.wire] ++ le16 r.index ++
  le16 r.meas.height ++ [byteN r.meas.deform] ++ le16 r.meas.energy ++ [byteN r.meas.time, byteN r.retries,
  byteN r.pullStn] ++ le16 r.force ++ [byteN r.mode, byteN r.verdict] ++ List.replicate 36 0x00

/-- The 64 bytes of a record as programmed: the CRC over bytes 0 to 60, the retraction mark 0xFF. -/
def RecBody.encode (stn num : Nat) (r : RecBody) : List Byte :=
  let b := r.bytes61 stn num
  b ++ le16 (crc16 b).toNat ++ [0xFF]

/-- A record read back whose CRC matches (R147). -/
def recordGood (bs : List Byte) : Bool := rd16 bs 61 == (crc16 (bs.take 61)).toNat

/-- Record kind codes (R179). -/
def RecKind.pull : Nat := 1
def RecKind.orphan : Nat := 2
def RecKind.notTested : Nat := 3

end Sys2Proof.Machine
end

