-- ==== Sys2Proof/Machine/Notes.lean ====
section
/-! DEFINITION. The table-changing notes: for each kind the conditions and the effect on the cell table (R67 to R70, R72,
R79 to R83, R116, R118, R130, R133, R134, R137, R139), the sets of sections it reads and writes (R51), and the absence
effect (R60). -/

namespace Sys2Proof.Machine

/-- What a note is judged by beside the table and the plan: the sender, and the state and flags of its frame (R50). -/
structure NoteCtx where
  sender : Nat
  state : StState
  flags : HFlags
  deriving DecidableEq, Repr

/-! ## Reading the table -/

/-- The unit entry of a unit of a window. -/
def Table.unit? (t : Table) (w u : Nat) : Option UEntry := (t.win? w).bind (·.units[u]?)

/-- The strip of a window with a unit entry changed. -/
def Strip.mapUnit (u : Nat) (f : UEntry → UEntry) (x : Strip) : Strip := { x with units := x.units.modify u f }

/-- The table with one unit entry of a window changed. -/
def Table.mapUnit (t : Table) (w u : Nat) (f : UEntry → UEntry) : Table :=
  { t with win := t.win.modify w (Option.map (Strip.mapUnit u f)) }

/-- The unit entry with one group entry changed. -/
def UEntry.mapGroup (g : Nat) (f : GEntry → GEntry) (e : UEntry) : UEntry := { e with groups := e.groups.modify g f }

/-- A group is CLAIMED by a station. -/
def GEntry.claimedBy (s : Nat) (g : GEntry) : Bool := g.st == .claimed && g.claimer == some s

/-- The test of a unit is CLAIMED by a station. -/
def UEntry.testBy (s : Nat) (e : UEntry) : Bool := e.test == .claimed && e.tester == some s

/-- Groups and tests of a unit CLAIMED by a station. -/
def UEntry.claims (s : Nat) (e : UEntry) : Nat :=
  (e.groups.filter (GEntry.claimedBy s)).length + (if e.testBy s then 1 else 0)

/-- A group or the test of a unit is CLAIMED by a station other than `s`. -/
def UEntry.claimedByOther (s : Nat) (e : UEntry) : Bool :=
  e.groups.any (fun g => g.st == .claimed && !(g.claimer == some s)) || (e.test == .claimed && !(e.tester == some s))

/-- A group or the test of a unit is CLAIMED. -/
def UEntry.claimed (e : UEntry) : Bool := e.groups.any (·.st == .claimed) || e.test == .claimed

/-- The hold of a station on a class (R44). -/
def Table.hold (t : Table) (s c : Nat) : Bool := t.holds.getLsbD (4 * s + c)

/-- The holds with one turned on or off. -/
def Table.setHold (t : Table) (s c : Nat) (on : Bool) : Table :=
  { t with holds := if on then t.holds ||| (1#32 <<< (4 * s + c)) else t.holds &&& ~~~(1#32 <<< (4 * s + c)) }

/-- Groups and tests CLAIMED by a station across all windows (R67). -/
def Table.claims (t : Table) (s : Nat) : Nat :=
  (t.win.map fun o => (o.map fun x => (x.units.map (UEntry.claims s)).sum).getD 0).sum

/-- No group or test of any window W0 to W(last) is CLAIMED (R78, R79). -/
def Table.noClaim (p : Plan) (t : Table) : Bool :=
  p.wins.all fun w => ((t.win? w).map fun x => !x.units.any UEntry.claimed).getD true

/-- The keep-out test: no group or test on the strip is CLAIMED by a station other than `s` on a unit whose column differs
from u's by less than the keep-out (R64, R67). -/
def keepOutFree (p : Plan) (x : Strip) (s u : Nat) : Bool :=
  (List.range x.units.length).all fun v =>
    !(((x.units[v]?).map (UEntry.claimedByOther s)).getD false &&
      (decide (p.col v < p.col u + p.keepOut) && decide (p.col u < p.col v + p.keepOut)))

/-- Group g is PENDING and every group below it is DONE. -/
def groupOpen (e : UEntry) (g : Nat) : Bool :=
  ((e.groups[g]?).map (·.st == .pending)).getD false && (e.groups.take g).all (·.st == .done)

/-- Every group of the unit is DONE. -/
def allDone (e : UEntry) : Bool := e.groups.all (·.st == .done)

/-- Some group of the unit is FAILED or UNKNOWN. -/
def someLost (e : UEntry) : Bool := e.groups.any fun g => g.st == .failed || g.st == .unknown

/-! ## CLAIM, DONE, RELEASE, SKIP, HOLD_OFF (chapter 4) -/

/-- The parts of R64 and R67 that read the table for group g of unit u in window w, for station s of class c. -/
def bondTable (p : Plan) (t : Table) (s w u g c : Nat) : Bool :=
  match t.win? w with
  | none => false
  | some x =>
    match x.units[u]? with
    | none => false
    | some e =>
      t.phase == .opened && decide (u < p.units) && e.st == .opened && decide (g < p.groupCount) && groupOpen e g &&
      p.cls g == c && !t.hold s c && keepOutFree p x s u

/-- The parts of R65 and R67 that read the table for the test of unit u in window w, for station s. -/
def pullTable (p : Plan) (t : Table) (s w u : Nat) : Bool :=
  match t.win? w with
  | none => false
  | some x =>
    match x.units[u]? with
    | none => false
    | some e =>
      t.phase == .opened && decide (u < p.units) && x.sampled && p.tests.contains u && e.st == .opened &&
      e.test == .pending && allDone e && keepOutFree p x s u

/-- A claim as the table shows it: the group or test CLAIMED by s (R67). -/
def markClaim (t : Table) (s w u g : Nat) : Table :=
  if g = 4 then t.mapUnit w u fun e => { e with test := .claimed, tester := some s }
  else t.mapUnit w u (UEntry.mapGroup g fun x => { x with st := .claimed, claimer := some s })

/-- CLAIM (R67). Condition 6 counts the claims of every window, in a copier those of windows not copied too (assumption 72). -/
def judgeClaim (p : Plan) (c : NoteCtx) (t : Table) (w u g : Nat) : Option Table :=
  match p.seatOf c.sender with
  | none => none
  | some seat =>
    if seat.win == w && decide (t.claims c.sender < 2) &&
        (if g = 4 then seat.pull && pullTable p t c.sender w u
         else !seat.pull && bondTable p t c.sender w u g seat.cls) then
      some (markClaim t c.sender w u g)
    else none

/-- The unit entry of a strip standing in a window, for a unit the plan defines (R68, R69). -/
def planUnit? (p : Plan) (t : Table) (w u : Nat) : Option UEntry := if u < p.units then t.unit? w u else none

/-- DONE (R68). Outcome codes: 0 BONDED, 1 FAILED. -/
def judgeDone (p : Plan) (c : NoteCtx) (t : Table) (w u g o : Nat) : Option Table :=
  match planUnit? p t w u with
  | none => none
  | some e =>
    if g = 4 then
      if e.testBy c.sender && o == 0 then
        some (t.mapUnit w u fun e => { e with test := .done, tester := none, st := .tested })
      else none
    else if decide (g < p.groupCount) && ((e.groups[g]?).map (GEntry.claimedBy c.sender)).getD false then
      if o = 0 then
        some (t.mapUnit w u (UEntry.mapGroup g fun x => { x with st := .done, progress := p.wireCount g }))
      else if o = 1 then
        some (t.mapUnit w u fun e => { UEntry.mapGroup g (fun x => { x with st := .failed }) e with st := .failed })
      else none
    else none

/-- RELEASE (R69). -/
def judgeRelease (p : Plan) (c : NoteCtx) (t : Table) (w u g n : Nat) : Option Table :=
  match planUnit? p t w u with
  | none => none
  | some e =>
    if g = 4 then
      if e.testBy c.sender && n == 0 then
        some (t.mapUnit w u fun e => { e with test := .pending, tester := none })
      else none
    else
      match e.groups[g]? with
      | none => none
      | some x =>
        if decide (g < p.groupCount) && x.claimedBy c.sender && decide (x.progress ≤ n) && decide (n ≤ p.wireCount g) then
          some (t.mapUnit w u (UEntry.mapGroup g fun x => { x with st := .pending, claimer := none, progress := n }))
        else none

/-- SKIP (R70). -/
def judgeSkip (p : Plan) (c : NoteCtx) (t : Table) (w u : Nat) : Option Table :=
  match planUnit? p t w u with
  | none => none
  | some e =>
    if c.state == .active && decide (w < p.windows) && e.st == .opened && !e.claimed then
      some (t.mapUnit w u fun e => { e with st := .skipped })
    else none

/-- HOLD_OFF (R72). -/
def judgeHoldOff (c : NoteCtx) (t : Table) (k : Nat) : Option Table :=
  if decide (k < 4) && t.hold c.sender k then some (t.setHold c.sender k false) else none

/-! ## The index notes (chapter 4) -/

/-- INDEX_START (R79). -/
def judgeIndexStart (p : Plan) (c : NoteCtx) (t : Table) : Option Table :=
  if c.flags.feed && t.phase == .opened && t.noClaim p then some { t with phase := .moving, clampSet := 0 } else none

/-- A window is in the clamp-open set. -/
def Table.clampOpen (t : Table) (w : Nat) : Bool := t.clampSet.getLsbD w

/-- The clamp-open set holds every window W0 to W(last). -/
def Table.clampsOpen (p : Plan) (t : Table) : Bool := p.wins.all t.clampOpen

/-- CLAMP_OPEN (R80). -/
def judgeClampOpen (p : Plan) (c : NoteCtx) (t : Table) (w : Nat) : Option Table :=
  if t.phase == .moving && decide (w < p.windows) && !t.clampOpen w && p.owner w == some c.sender then
    some { t with clampSet := t.clampSet ||| (1#8 <<< w) }
  else none

/-- Every strip one place on (R81). -/
def Table.shift (p : Plan) (t : Table) : Table :=
  { t with
    railOut := match t.win? p.last with
      | none => t.railOut
      | some x => some x
    win := (List.range 6).map fun w =>
      if w = 0 then t.railIn else if w ≤ p.last then t.win? (w - 1) else none
    railIn := none }

/-- INDEX_DONE (R81, R82). Shift codes: 0 clear, 1 set. -/
def judgeIndexDone (p : Plan) (c : NoteCtx) (t : Table) (n sh : Nat) : Option Table :=
  if sh = 1 then
    if c.flags.feed && BitVec.ofNat 16 n == t.index + 1 &&
        ((t.phase == .moving && t.clampsOpen p) || t.phase == .fault) &&
        !(t.railOut.isSome && (t.win? p.last).isSome) then
      some { t.shift p with phase := .opened, clampSet := 0, index := t.index + 1 }
    else none
  else if sh = 0 then
    if c.flags.feed && t.phase == .fault && BitVec.ofNat 16 n == t.index then
      some { t with phase := .opened, clampSet := 0 }
    else none
  else none

/-- INDEX_FAULT (R83). Cause codes: 0 CLAMP_TIMEOUT, 1 CLAMP_WAIT, 2 BEAM_JAM, 3 BEAM_TIMEOUT, 4 MOVE_LOST.
The window is 0xFF except for CLAMP_TIMEOUT; another value is no defined code (R179, assumption 37). -/
def judgeIndexFault (p : Plan) (c : NoteCtx) (t : Table) (cause w : Nat) : Option Table :=
  if t.phase == .moving &&
      (if cause = 0 then p.owner w == some c.sender else decide (cause ≤ 4) && w == 0xFF && c.flags.feed) then
    some { t with phase := .fault }
  else none

/-! ## PULL_RESULT (chapter 6) -/

/-- The verdict of a pull that carries a force, by the break mode code, the force and the class minimum (R114). -/
def verdictOf (mode force minimum : Nat) : Nat :=
  if mode = 1 ∨ mode = 2 ∨ mode = 3 then (if minimum ≤ force then Verdict.pass else Verdict.failLow) else Verdict.failMode

/-- The verdict agrees with force, mode and class minimum, or is NO_RESULT with force 0 and mode NONE (R116, condition 5). -/
def verdictAgrees (p : Plan) (n : PullNote) : Bool :=
  (between 1 n.mode 6 && n.verdict == verdictOf n.mode n.force (p.minOf n.cls)) ||
  (n.verdict == Verdict.noResult && n.force == 0 && n.mode == 0)

/-- FAIL_LOW and FAIL_MODE (R114). -/
def PullNote.failing (n : PullNote) : Bool := n.verdict == Verdict.failLow || n.verdict == Verdict.failMode

/-- A PULL_RESULT with a verdict from a pull (R116). -/
def judgePull (p : Plan) (c : NoteCtx) (t : Table) (n : PullNote) : Option Table :=
  match t.win? n.win, planUnit? p t n.win n.unit with
  | some x, some e =>
    match e.groups[n.group]?, p.wire? n.group n.wire with
    | some g, some wr =>
      if x.id == n.strip && p.tests.contains n.unit && e.testBy c.sender && decide (n.group < p.groupCount) &&
          g.st == .done && wr.witness && g.claimer == some n.bonder && n.cls == p.cls n.group && verdictAgrees p n then
        if n.failing then
          some ({ t with win := t.win.modify n.win (Option.map fun x => { x with pullFail := true }) }.setHold
            n.bonder n.cls true)
        else some t
      else none
    | _, _ => none
  | _, _ => none

/-- An untestable PULL_RESULT, group code 4 (R118). -/
def judgeUntestable (p : Plan) (c : NoteCtx) (t : Table) (n : PullNote) : Option Table :=
  match t.win? n.win, planUnit? p t n.win n.unit, p.seatOf c.sender with
  | some x, some e, some seat =>
    if t.phase == .opened && seat.pull && seat.win == n.win && x.id == n.strip && x.sampled && p.tests.contains n.unit &&
        e.test == .pending && someLost e && n.wire == 0 && n.bonder == 0xFF && n.cls == 0 && n.force == 0 &&
        n.mode == 0 && n.verdict == Verdict.noResult then
      some (t.mapUnit n.win n.unit fun e => { e with test := .done, tester := none })
    else none
  | _, _, _ => none

/-! ## LOAD, UNLOAD, MAGAZINE, WRITE_OFF (chapter 7) -/

/-- A magazine record of the table. -/
def Table.mag (t : Table) : MagName → MagRec
  | .input => t.magInput | .good => t.magGood | .reject => t.magReject

/-- The table with a magazine record replaced. -/
def Table.setMag (t : Table) (m : MagName) (r : MagRec) : Table :=
  match m with
  | .input => { t with magInput := r } | .good => { t with magGood := r } | .reject => { t with magReject := r }

/-- A present magazine (R45). -/
def MagRec.present (m : MagRec) : Bool := m.presence == 1

/-- A slot of a present magazine holds a code. -/
def MagRec.slotIs (m : MagRec) (i code : Nat) : Bool := m.present && m.slots[i]? == some code

/-- The record with one slot changed, when it is present. -/
def MagRec.setSlot (m : MagRec) (i code : Nat) : MagRec := if m.present then { m with slots := m.slots.set i code } else m

/-- The lowest slot of a present magazine that holds a code. -/
def MagRec.find (m : MagRec) (code : Nat) : Option Nat :=
  if m.present then (List.range m.slots.length).find? (m.slotIs · code) else none

/-- The FILLED slots of a good or reject magazine's record, none when it is absent (R128, R130). -/
def MagRec.filled (m : MagRec) : List Nat := (List.range m.slots.length).filter (m.slotIs · Slot.full)

/-- The strip id that follows the strips-loaded counter (R132, R133). -/
def Table.nextId (t : Table) : Nat := t.loaded.toNat % 65535 + 1

/-- The judgement of a strip at OUT (R134). -/
def goodStrip (x : Strip) : Bool :=
  !x.pullFail && x.units.all fun e =>
    !(e.st == .failed) && (!(e.st == .opened) || allDone e) && !(e.test == .pending || e.test == .claimed)

/-- A strip with a missed test (R134): reject, with a unit whose test state is PENDING or CLAIMED. -/
def missedTest (x : Strip) : Bool := x.units.any fun e => e.test == .pending || e.test == .claimed

/-- The slot of a LOAD or WRITE_OFF from an input slot: in range, and FULL when the input magazine is present. -/
def inputSlotOk (p : Plan) (t : Table) (sl : Nat) : Bool :=
  decide (sl < p.slotsInput) && (!t.magInput.present || t.magInput.slotIs sl Slot.full)

/-- LOAD (R133). -/
def judgeLoad (p : Plan) (c : NoteCtx) (t : Table) (sl id : Nat) : Option Table :=
  if c.flags.feed && t.railIn.isNone && id == t.nextId && inputSlotOk p t sl then
    some { t with railIn := some (newStrip p id sl), magInput := t.magInput.setSlot sl Slot.taken, loaded := t.loaded + 1 }
  else none

/-- The magazine an UNLOAD verdict names: 0 GOOD, 1 REJECT (R137). -/
def magOfVerdict : Nat → Option MagName
  | 0 => some .good | 1 => some .reject | _ => none

/-- The verdict code of a strip (R134, R137). -/
def verdictCode (x : Strip) : Nat := if goodStrip x then 0 else 1

/-- UNLOAD (R137). -/
def judgeUnload (p : Plan) (c : NoteCtx) (t : Table) (id v sl : Nat) : Option Table :=
  match t.railOut, magOfVerdict v with
  | some x, some m =>
    if c.flags.unload && x.id == id && v == verdictCode x && decide (sl < p.slots m) &&
        (!(t.mag m).present || (t.mag m).slotIs sl Slot.empty) then
      let t' := { t with railOut := none }.setMag m ((t.mag m).setSlot sl Slot.full)
      some (if v = 0 then { t' with good := t.good + 1 } else { t' with reject := t.reject + 1 })
    else none
  | _, _ => none

/-- The slot codes the tables define for a magazine (R179): EMPTY and FULL, and TAKEN for the input magazine. -/
def slotCodeOk (m : MagName) (x : Nat) : Bool := decide (x ≤ 1) || (m == .input && x == Slot.taken)

/-- MAGAZINE (R130). Event codes: 0 REMOVED, 1 LOADED; a slot code that is not defined is refused with either (R179). -/
def judgeMagazine (p : Plan) (c : NoteCtx) (t : Table) (m ev : Nat) (sl : List Nat) : Option Table :=
  match MagName.ofCode m with
  | none => none
  | some m =>
    if (if m = .input then c.flags.feed else c.flags.unload) then
      if ev = 0 then (if sl.all (slotCodeOk m) then some (t.setMag m ⟨0, []⟩) else none)
      else if ev = 1 then
        if sl.length == p.slots m && sl.all (fun x => decide (x ≤ 1)) &&
            (m == .input || (MagRec.mk 1 sl).filled == (t.mag m).filled) then
          some (t.setMag m ⟨1, sl⟩)
        else none
      else none
    else none

/-- WRITE_OFF (R139). Position codes: 0 INPUT, 1 IN, 2 OUT. The slot is 0xFF except for INPUT; another value is no defined code
(R179, assumption 37). -/
def judgeWriteOff (p : Plan) (c : NoteCtx) (t : Table) (id pos sl : Nat) : Option Table :=
  if pos = 0 then
    if c.flags.feed && id == t.nextId && inputSlotOk p t sl then
      some { t with magInput := t.magInput.setSlot sl Slot.taken, loaded := t.loaded + 1, written := t.written + 1 }
    else none
  else if pos = 1 then
    if c.flags.feed && sl == 0xFF && (t.railIn.map (·.id)) == some id then some { t with railIn := none, written := t.written + 1 }
    else none
  else if pos = 2 then
    if c.flags.unload && sl == 0xFF && (t.railOut.map (·.id)) == some id then some { t with railOut := none, written := t.written + 1 }
    else none
  else none

/-! ## The judgement of every kind -/

/-- The table after a table-changing note whose conditions hold; none when it is refused (R50). A note of another class is
no table-changing note. -/
def judge (p : Plan) (c : NoteCtx) (t : Table) : Note → Option Table
  | .claim w u g => judgeClaim p c t w u g
  | .done w u g o => judgeDone p c t w u g o
  | .release w u g n => judgeRelease p c t w u g n
  | .skip w u => judgeSkip p c t w u
  | .holdOff k => judgeHoldOff c t k
  | .indexStart => judgeIndexStart p c t
  | .indexDone n sh => judgeIndexDone p c t n sh
  | .clampOpen w => judgeClampOpen p c t w
  | .indexFault cause w => judgeIndexFault p c t cause w
  | .pullResult n => if n.group = 4 then judgeUntestable p c t n else judgePull p c t n
  | .load sl id => judgeLoad p c t sl id
  | .unload id v sl => judgeUnload p c t id v sl
  | .magazine m ev sl => judgeMagazine p c t m ev sl
  | .writeOff id pos sl => judgeWriteOff p c t id pos sl
  | _ => none

/-! ## Codes (R179) -/

/-- Every code field of a table-changing note holds a code that the tables of section 11.1 define (R179). Windows, units, slots,
classes, stations and counts are numbers and no codes (assumption 76). -/
def Note.codesDefined : Note → Bool
  | .claim _ _ g | .release _ _ g _ => decide (g ≤ 4)
  | .done _ _ g o => decide (g ≤ 4) && decide (o ≤ 1)
  | .indexDone _ sh => decide (sh ≤ 1)
  | .indexFault cause w => decide (cause ≤ 4) && (cause == 0 || w == 0xFF)
  | .pullResult n => decide (n.group ≤ 4) && decide (n.mode ≤ 6) && decide (n.verdict ≤ Verdict.noResult)
  | .unload _ v _ => decide (v ≤ 1)
  | .magazine m ev sl => decide (ev ≤ 1) && ((MagName.ofCode m).map fun m => sl.all (slotCodeOk m)).getD false
  | .writeOff _ pos sl => decide (pos ≤ 2) && (pos == 0 || sl == 0xFF)
  | .skip .. | .holdOff _ | .indexStart | .clampOpen _ | .load .. => true
  | .plan .. | .restart _ | .text .. | .fetch .. | .cancel .. | .retract .. | .record .. | .fetchEnd .. | .answer .. => true

/-! ## Sections a note reads and writes (R51) -/

/-- Both halves of a window; a window that does not exist has none. -/
def halves (w : Nat) : List Nat := if w < 6 then [2 * w + 1, 2 * w + 2] else []

/-- The first half of a window. -/
def firstHalf (w : Nat) : List Nat := (halves w).take 1

/-- The half of a window that holds a unit: units 0 to 23 the first, all others the second (R51, assumption 26). -/
def halfOf (w u : Nat) : List Nat := if u < 24 then firstHalf w else (halves w).drop 1

/-- The sections a note reads for its conditions (R51). -/
def Note.reads (p : Plan) : Note → List Nat
  | .claim w _ _ => 0 :: halves w
  | .done w u _ _ | .release w u _ _ | .skip w u => halfOf w u
  | .holdOff _ | .clampOpen _ | .indexFault .. => [0]
  | .indexStart => 0 :: p.wins.flatMap halves
  | .indexDone _ sh => if sh = 1 then [0, 13] ++ halves p.last else [0]
  | .pullResult n =>
    if n.group = 4 then 0 :: firstHalf n.win ++ halfOf n.win n.unit else firstHalf n.win ++ halfOf n.win n.unit
  | .load .. | .writeOff .. => [0, 13]
  | .unload .. | .magazine .. => [13]
  | _ => []

/-- The sections a note writes for its effect (R51). -/
def Note.writes : Note → List Nat
  | .claim w u _ | .done w u _ _ | .release w u _ _ | .skip w u => halfOf w u
  | .holdOff _ | .clampOpen _ | .indexFault .. | .indexStart => [0]
  | .indexDone _ sh => if sh = 1 then List.range Config.sections else [0]
  | .pullResult n => if n.group = 4 then halfOf n.win n.unit else 0 :: firstHalf n.win ++ halfOf n.win n.unit
  | .load .. | .writeOff .. | .unload .. => [0, 13]
  | .magazine .. => [13]
  | _ => []

/-- The fixed sections: those of the windows above W(last) (R48). -/
def fixedSection (p : Plan) (n : Nat) : Bool := decide (2 * p.windows + 1 ≤ n) && decide (n < 13)

/-! ## The absence effect (R60) -/

/-- The absence effect on one unit entry: groups CLAIMED by s become UNKNOWN and the unit FAILED; a test CLAIMED by s
returns to PENDING. -/
def UEntry.absent (s : Nat) (e : UEntry) : UEntry :=
  { st := if e.groups.any (GEntry.claimedBy s) then .failed else e.st
    test := if e.testBy s then .pending else e.test
    tester := if e.testBy s then none else e.tester
    groups := e.groups.map fun g => if g.claimedBy s then { g with st := .unknown } else g }

/-- The absence effect on one half of a unit table: `second` false for units 0 to 23, true for units 24 on. -/
def absentUnits (s : Nat) (second : Bool) (us : List UEntry) : List UEntry :=
  if second then us.take 24 ++ (us.drop 24).map (UEntry.absent s) else (us.take 24).map (UEntry.absent s) ++ us.drop 24

/-- The absence effect on one half of a window. -/
def Table.absentHalf (s w : Nat) (second : Bool) (t : Table) : Table :=
  { t with win := t.win.modify w (Option.map fun x => { x with units := absentUnits s second x.units }) }

/-- The absence effect on the halves of W0 to W(last) whose section `f` admits. -/
def Table.absent (p : Plan) (f : Nat → Bool) (s : Nat) (t : Table) : Table :=
  p.wins.foldl (fun t w =>
    let t := if f (2 * w + 1) then t.absentHalf s w false else t
    if f (2 * w + 2) then t.absentHalf s w true else t) t

end Sys2Proof.Machine
end

