-- ==== Sys2Proof/Machine/Ops.lean ====
section
/-! DEFINITION. The named operations over the state that every block uses: the sparse memories (flash and staging buffer),
the alarm list (R169, R170), the outgoing note queue (R19), the table as the other blocks see it (R39), the seat (R32) and
the duties of feed and unload station (R35). -/

namespace Sys2Proof.Machine

/-! ## Sparse memories -/

/-- The byte listed at an address. -/
def cellGet : List Host.Cell → Nat → Option Byte
  | [], _ => none
  | (k, v) :: r, a => if a = k then some v else if a < k then none else cellGet r a

/-- The list with a byte at an address, addresses rising. -/
def cellPut (a : Nat) (b : Byte) : List Host.Cell → List Host.Cell
  | [] => [(a, b)]
  | (k, v) :: r => if a = k then (a, b) :: r else if a < k then (a, b) :: (k, v) :: r else (k, v) :: cellPut a b r

/-- The list without an address. -/
def cellDel (a : Nat) : List Host.Cell → List Host.Cell
  | [] => []
  | (k, v) :: r => if a = k then r else if a < k then (k, v) :: r else (k, v) :: cellDel a r

/-- The canonical form of the flash: addresses strictly rising and inside the 4 MiB, no byte equal to the erased value. -/
def Memory.wf (m : List Host.Cell) : Bool :=
  decide ((m.map (·.1)).Pairwise (· < ·)) &&
  m.all fun c => c.2 != 0xFF#8 && decide (c.1 < Config.flashBlocks * Config.blockBytes)

/-- A byte of the flash; an erased byte reads 0xFF (R149, R155). -/
def flashRead (m : List Host.Cell) (a : Nat) : Byte := (cellGet m a).getD 0xFF#8

/-- The flash with a byte set. -/
def flashSet (m : List Host.Cell) (a : Nat) (b : Byte) : List Host.Cell :=
  if b = 0xFF#8 then cellDel a m else if a < Config.flashBlocks * Config.blockBytes then cellPut a b m else m

/-- `n` bytes of the flash from an address. -/
def flashBytes (m : List Host.Cell) (a n : Nat) : List Byte := (List.range n).map fun i => flashRead m (a + i)

/-- A program: every byte's bits are only cleared (R157). -/
def flashProgram (m : List Host.Cell) (a : Nat) : List Byte → List Host.Cell
  | [] => m
  | b :: bs => flashProgram (flashSet m a (flashRead m a &&& b)) (a + 1) bs

/-- A program that failed or was cut short: of each byte some bits are cleared, which ones is free (assumption 7). -/
def flashProgramFail (n : Nat) (m : List Host.Cell) (a : Nat) : List Byte → List Host.Cell
  | [] => m
  | _ :: bs => flashProgramFail n (flashSet m a (flashRead m a &&& Config.failedProgram n a)) (a + 1) bs

/-- An address lies in a block. -/
def inBlock (blk a : Nat) : Bool := a / Config.blockBytes == blk

/-- An erased block: every byte reads 0xFF. -/
def flashErase (m : List Host.Cell) (blk : Nat) : List Host.Cell := m.filter fun c => !inBlock blk c.1

/-- An erase that failed or was cut short: in each byte of the block some bits are set, which ones is free
(assumption 7). -/
def flashEraseFail (n : Nat) (m : List Host.Cell) (blk : Nat) : List Host.Cell :=
  (m.map fun c => if inBlock blk c.1 then (c.1, c.2 ||| Config.failedErase n c.1) else c).filter fun c => c.2 != 0xFF#8

/-- The address of a block's header (R182). -/
def headerAddr (blk : Nat) : Nat := Config.blockBytes * blk

/-- The address of a record slot (R182). -/
def slotAddr (blk slot : Nat) : Nat := Config.blockBytes * blk + 32 + 64 * slot

/-! ## The table as the blocks see it, the seat, the duties -/

/-- Every mark of the copy map shows "copied": the table is complete (R33). -/
def Ctu.complete (c : Ctu) : Bool := c.copied.all id

/-- The table of the station, when it holds one: in ACTIVE and RESYNC, and in JOINING once it is complete (R39). -/
def State.table (s : State) : Option Table :=
  match s.lnk.st with
  | .active | .resync => s.ctu.rep
  | .joining => if s.ctu.complete then s.ctu.rep else none
  | _ => none

/-- The station's own number. -/
def State.stn (s : State) : Nat := s.su.straps.stn

/-- The seat of the station in the held plan, when it is seated (R32). -/
def State.seat (s : State) : Option Seat := s.su.held.bind (·.seated s.su.straps)

/-- The plan and the seat of a seated station. -/
def State.seating (s : State) : Option (Plan × Seat) :=
  match s.su.held with
  | none => none
  | some p => (p.seated s.su.straps).map fun t => (p, t)

/-- The window this station owns, when it owns one (R32). -/
def State.ownWindow (s : State) : Option Nat :=
  match s.seating with
  | none => none
  | some (p, t) => if p.owner t.win = some s.stn then some t.win else none

/-- The station acts as feed station (R35). -/
def State.actsFeed (s : State) : Bool := s.su.straps.feed && s.lnk.st == .active && !s.su.feedLost

/-- The station acts as unload station (R35). -/
def State.actsUnload (s : State) : Bool := s.su.straps.unload && s.lnk.st == .active && !s.su.unloadLost

/-- ACTIVE or RESYNC: the states in which the station's own work goes on (R58). -/
def State.working (s : State) : Bool := s.lnk.st == .active || s.lnk.st == .resync

/-- The LNK handles frames and slots: no self-check and no restart step runs (R25, R37). -/
def State.handles (s : State) : Bool := s.su.run == .running

/-- The index count of the replica as a number, 0 when no table is held (R169). -/
def State.indexNow (s : State) : Nat := (s.table.map (·.index.toNat)).getD 0

/-! ## The alarm list (R169, R170) -/

/-- The list without its oldest entry that satisfies a test. -/
def dropFirst {α : Type} (f : α → Bool) : List α → List α
  | [] => []
  | x :: r => if f x then r else x :: dropFirst f r

/-- The list with its oldest entry that satisfies a test changed. -/
def mapFirst {α : Type} (f : α → Bool) (g : α → α) : List α → List α
  | [] => []
  | x :: r => if f x then g x :: r else x :: mapFirst f g r

/-- A raise of a code (R169). -/
def Ocu.raise (a : Alarm) (ix : Nat) (o : Ocu) : Ocu :=
  match o.alarms.find? (·.code == a) with
  | some e =>
    if e.st = .clearedUnacked then
      { o with alarms := dropFirst (·.code == a) o.alarms ++
          [{ e with st := .raised, index := ix, repeats := satAdd 255 e.repeats 1 }] }
    else { o with alarms := mapFirst (·.code == a) (fun e => { e with repeats := satAdd 255 e.repeats 1 }) o.alarms }
  | none =>
    if o.alarms.length < Config.alarmEntries then { o with alarms := o.alarms ++ [⟨a, .raised, ix, 0⟩] }
    else if o.alarms.any (·.st == .acked) then
      { o with alarms := dropFirst (·.st == .acked) o.alarms ++ [⟨a, .raised, ix, 0⟩] }
    else { o with overflow := satAdd 255 o.overflow 1 }

/-- The end of a code's condition (R170). -/
def Ocu.settleAlarm (a : Alarm) (o : Ocu) : Ocu :=
  match o.alarms.find? (·.code == a) with
  | some e =>
    match e.st with
    | .raised => { o with alarms := mapFirst (·.code == a) (fun e => { e with st := .clearedUnacked }) o.alarms }
    | .acked => { o with alarms := dropFirst (·.code == a) o.alarms }
    | .clearedUnacked => o
  | none => o

/-- A raise, with the index count of the replica. -/
def raise (a : Alarm) (s : State) : State := { s with ocu := s.ocu.raise a s.indexNow }

/-- The end of a condition. -/
def clearAlarm (a : Alarm) (s : State) : State := { s with ocu := s.ocu.settleAlarm a }

/-- Raise when a condition comes to stand, clear when it ends. -/
def edgeAlarm (a : Alarm) (before after : Bool) (s : State) : State :=
  if after && !before then raise a s else if before && !after then clearAlarm a s else s

/-! ## The outgoing note queue (R19) -/

/-- Waiting requests enter in the order they were made, one for each free place. -/
def Lnk.drain (l : Lnk) : Lnk :=
  let n := Config.queuePlaces - l.queue.length
  { l with queue := l.queue ++ l.waiting.take n, waiting := l.waiting.drop n }

/-- A request: the note enters at the tail at once when a place is free, and waits otherwise. -/
def Lnk.request (by_ : Producer) (n : Note) (l : Lnk) : Lnk := Lnk.drain { l with waiting := l.waiting ++ [⟨n, by_, false⟩] }

/-- A request of a block waits for a free place: the block's work behind it waits too (R19, assumption 34). -/
def Lnk.waits (by_ : Producer) (l : Lnk) : Bool := l.waiting.any (·.producer == by_)

/-- A block's request to send a note. -/
def place (by_ : Producer) (n : Note) (s : State) : State := { s with lnk := s.lnk.request by_ n }

/-- Notes satisfying a test that are not in flight are taken out of the queue and of the waiting requests. -/
def Lnk.takeOut (f : Note → Bool) (l : Lnk) : Lnk :=
  Lnk.drain { l with queue := l.queue.filter (fun q => q.inFlight || !f q.note)
                     waiting := l.waiting.filter fun q => !f q.note }

/-- A note is in the queue or waiting to enter it. -/
def Lnk.hasNote (f : Note → Bool) (l : Lnk) : Bool := l.queue.any (fun q => f q.note) || l.waiting.any fun q => f q.note

/-- A note of the queue is in flight. -/
def Lnk.noteFlying (n : Note) (l : Lnk) : Bool := l.queue.any fun q => q.inFlight && q.note == n

/-- The notes in flight leave the queue, and the places go to waiting requests (R23). -/
def Lnk.sent (l : Lnk) : Lnk := Lnk.drain { l with queue := l.queue.filter fun q => !q.inFlight }

/-- The in-flight marks are cleared (R23). -/
def Lnk.unsent (l : Lnk) : Lnk := { l with queue := l.queue.map fun q => { q with inFlight := false } }

/-- A roster entry. -/
def Lnk.entry (l : Lnk) (k : Nat) : RosterEntry := l.roster.getD k .clear

/-- An entry of a station that is a voter: present, last state ACTIVE, role BOND or PULL (R76). -/
def RosterEntry.voter (e : RosterEntry) : Bool :=
  e.present && e.last == some .active && (e.role == some .bond || e.role == some .pull)

end Sys2Proof.Machine
end

