-- ==== Sys2Proof/Machine/Records.lean ====
section
/-! DEFINITION. The Record Unit without the fetch engine: trace ring and reservations (R141 to R146), records and the write
queue (R147, R148), the block table (R149 to R152), failures (R153), the store state (R154), the mount (R155, R156). -/

namespace Sys2Proof.Machine

/-! ## The trace ring (R141 to R146) -/

/-- The trace entry of a wire. -/
def TraceEntry.isWire (strip unit group wire : Nat) (e : TraceEntry) : Bool :=
  e.strip == strip && e.unit == unit && e.group == group && e.wire == wire

/-- WAITING with outcome none. -/
def TraceEntry.open_ (e : TraceEntry) : Bool := !e.writing && e.outcome.isNone

/-- The reservations held (R142). -/
def Rcu.reserved (r : Rcu) : Nat := (r.resv.map (·.count)).sum

/-- The trace room: 64 less entries less reservations (R141). -/
def Rcu.room (r : Rcu) : Nat := Config.ringEntries - (r.ring.length + r.reserved)

/-- Entries freed, or hand-offs discarded, without a record programmed (R141). -/
def Rcu.addLost (n : Nat) (r : Rcu) : Rcu := { r with lost := satAdd 65535 r.lost n }

/-- Records discarded without being programmed (R141). -/
def Rcu.addDiscarded (n : Nat) (r : Rcu) : Rcu := { r with discarded := satAdd 65535 r.discarded n }

/-- The reservation is the one of a claim. -/
def Reservation.isFor (strip unit group : Nat) (v : Reservation) : Bool :=
  v.strip == strip && v.unit == unit && v.group == group

/-- A claim's reservation is taken (R142). -/
def Rcu.reserve (strip unit group n : Nat) (r : Rcu) : Rcu :=
  if n = 0 then r else { r with resv := r.resv ++ [⟨strip, unit, group, n⟩] }

/-- What is left of a claim's reservation is returned (R142). -/
def Rcu.unreserve (strip unit group : Nat) (r : Rcu) : Rcu :=
  { r with resv := r.resv.filter fun v => !v.isFor strip unit group }

/-- A claim's reservation falls by one (R143). -/
def Rcu.useOne (strip unit group : Nat) (r : Rcu) : Rcu :=
  let fell := mapFirst (Reservation.isFor strip unit group) (fun v => { v with count := v.count - 1 }) r.resv
  { r with resv := fell.filter fun v => decide (0 < v.count) }

/-- The claim holds a reservation. -/
def Rcu.hasReservation (strip unit group : Nat) (r : Rcu) : Bool := r.resv.any (Reservation.isFor strip unit group)

/-- The record of a trace entry (R147). -/
def TraceEntry.record (e : TraceEntry) : RecBody :=
  match e.outcome with
  | some (.pull stn force mode verdict) =>
    ⟨RecKind.pull, e.strip, e.unit, e.group, e.wire, e.index, e.meas, e.retries, stn, force, mode, verdict⟩
  | _ =>
    ⟨RecKind.notTested, e.strip, e.unit, e.group, e.wire, e.index, e.meas, e.retries, 0xFF, 0, 0, Verdict.none⟩

/-- One entry with an outcome enters the write queue when the queue has room (R146). -/
def Rcu.enqueueOne (r : Rcu) : Rcu :=
  match r.ring.find? (fun e => !e.writing && e.outcome.isSome) with
  | none => r
  | some e =>
    if r.queue.length < Config.writeRecords then
      { r with queue := r.queue ++ [e.record]
               ring := mapFirst (fun e => !e.writing && e.outcome.isSome) (fun e => { e with writing := true }) r.ring }
    else r

/-- Entries waiting for room enter the write queue, in the order in which they received their outcomes (R146). -/
def Rcu.fill (r : Rcu) : Rcu :=
  r.enqueueOne.enqueueOne.enqueueOne.enqueueOne.enqueueOne.enqueueOne.enqueueOne.enqueueOne

/-- The store takes no records: LOCKED or FAULT (R146). -/
def Rcu.shut (r : Rcu) : Bool := r.store == .locked || r.store == .fault

/-- The entry of a wire, waiting with outcome none, is given an outcome: it goes behind the entries that have one, or is
freed and counted lost when the store is LOCKED or FAULT (R146). -/
def Rcu.giveOutcome (strip unit group wire : Nat) (o : TraceOutcome) (r : Rcu) : Rcu :=
  match r.ring.find? (fun e => e.isWire strip unit group wire && e.open_) with
  | none => r
  | some e =>
    let rest := dropFirst (fun e => e.isWire strip unit group wire && e.open_) r.ring
    if r.shut then Rcu.addLost 1 { r with ring := rest }
    else Rcu.fill { r with ring := rest ++ [{ e with outcome := some o }] }

/-- A trace hand-off on the DONE of a traced wire (R95, R143). Its index count and retries replace those of an open entry with
the measurements (assumption 59). -/
def Rcu.handOff (strip unit group wire index : Nat) (m : Meas) (retries : Nat) (r : Rcu) : Rcu :=
  let used := r.useOne strip unit group
  if r.store == .ready || r.store == .full then
    match r.ring.find? (TraceEntry.isWire strip unit group wire) with
    | some e =>
      if e.open_ then
        Rcu.addLost 1 { used with
          ring := mapFirst (TraceEntry.isWire strip unit group wire)
            (fun e => { e with index := index, meas := m, retries := retries }) r.ring }
      else used.addLost 1
    | none =>
      if r.hasReservation strip unit group then
        { used with ring := r.ring ++ [⟨strip, unit, group, wire, index, m, retries, false, none⟩] }
      else used.addLost 1
  else used.addLost 1

/-- The PULL_ORPHAN record of a note (R147). -/
def orphanRecord (n : PullNote) (sender index : Nat) : RecBody :=
  ⟨RecKind.orphan, n.strip, n.unit, n.group, n.wire, index, ⟨0, 0, 0, 0⟩, 0, sender, n.force, n.mode, n.verdict⟩

/-- An applied PULL_RESULT naming this station is joined to its trace, or written without one (R144). -/
def Rcu.joinPull (n : PullNote) (sender index : Nat) (r : Rcu) : Rcu :=
  if r.ring.any (fun e => e.isWire n.strip n.unit n.group n.wire && e.open_) then
    r.giveOutcome n.strip n.unit n.group n.wire (.pull sender n.force n.mode n.verdict)
  else if r.shut then r
  else if r.queue.length < Config.writeRecords then { r with queue := r.queue ++ [orphanRecord n sender index] }
  else r.addDiscarded 1

/-- The order of trace entries by strip, unit, group and wire (R145). -/
def TraceEntry.before (a b : TraceEntry) : Bool :=
  decide (a.strip < b.strip) || (a.strip == b.strip && (decide (a.unit < b.unit) || (a.unit == b.unit &&
    (decide (a.group < b.group) || (a.group == b.group && decide (a.wire < b.wire))))))

/-- Entries in that order. -/
def sortEntries : List TraceEntry → List TraceEntry
  | [] => []
  | e :: r => (sortEntries r).takeWhile (fun x => x.before e) ++ e :: (sortEntries r).dropWhile (fun x => x.before e)

/-- Every waiting entry without outcome that a test selects takes the outcome NOT_TESTED (R145). -/
def Rcu.notTested (f : TraceEntry → Bool) (r : Rcu) : Rcu :=
  (sortEntries (r.ring.filter fun e => e.open_ && f e)).foldl
    (fun r e => r.giveOutcome e.strip e.unit e.group e.wire .notTested) r

/-- A strip id stands on a window or rail of the table. -/
def Table.holds? (t : Table) (id : Nat) : Bool :=
  t.win.any (fun o => (o.map (·.id)) == some id) || (t.railIn.map (·.id)) == some id || (t.railOut.map (·.id)) == some id

/-- A strip has left the cell (R145). -/
def Rcu.stripLeft (id : Nat) (r : Rcu) : Rcu := r.notTested fun e => e.strip == id

/-- The table has become complete: traces of strips that stand nowhere in it are not tested (R145). -/
def Rcu.tableComplete (t : Table) (r : Rcu) : Rcu := r.notTested fun e => !t.holds? e.strip

/-- The entry of a record, if it has one (a PULL_ORPHAN has none), is freed (R146, R150). -/
def Rcu.freeEntry (b : RecBody) (r : Rcu) : Rcu :=
  if b.kind = RecKind.orphan then r
  else { r with ring := dropFirst (fun e => e.isWire b.strip b.unit b.group b.wire && e.writing) r.ring }

/-- Records leave the queue without being programmed: each raises the discarded-write count, its entry the lost-trace
count (R146, R151). -/
def Rcu.discard : List RecBody → Rcu → Rcu
  | [], r => r
  | b :: bs, r =>
    Rcu.discard bs ((r.freeEntry b).addDiscarded 1 |>.addLost (if b.kind = RecKind.orphan then 0 else 1))

/-! ## The block table (R149 to R152) -/

/-- FREE blocks. -/
def Rcu.freeCount (r : Rcu) : Nat := (r.blocks.filter (·.st == .free)).length

/-- An erase is required or under way: some block is ERASING (R151, R152). -/
def Rcu.erasing (r : Rcu) : Bool := r.blocks.any fun b => match b.st with | .erasing _ => true | _ => false

/-- The first block number that satisfies a test. -/
def Rcu.findBlock (f : Block → Bool) (r : Rcu) : Option Nat :=
  (List.range r.blocks.length).find? fun i => ((r.blocks[i]?).map f).getD false

/-- The OPEN block with a free slot. -/
def Rcu.openBlock (r : Rcu) : Option Nat := r.findBlock fun b => b.st == .opened && decide (b.written < Config.blockSlots)

/-- The first block number with the least value of a measure among those that satisfy a test. -/
def Rcu.leastBlock (f : Block → Bool) (m : Block → Nat) (r : Rcu) : Option Nat :=
  match ((r.blocks.filter f).map m).min? with
  | none => none
  | some v => r.findBlock fun b => f b && m b == v

/-- A block changed. -/
def Rcu.setBlock (i : Nat) (f : Block → Block) (r : Rcu) : Rcu := { r with blocks := r.blocks.modify i f }

/-- The first record number of the block opened next after a sequence number, by the headers the mount has read. -/
def Rcu.nextFirst (seq : Nat) (r : Rcu) : Option Nat :=
  let opened := r.blocks.filter (·.first.isSome)
  match ((opened.filterMap (·.seq)).filter (fun q => decide (seq < q))).min? with
  | none => none
  | some q => (opened.find? (·.seq == some q)).bind (·.first)

/-- A block's last readable number when another has been opened after it, by the headers the mount has read (R149). -/
def Rcu.boundOf (b : Block) (r : Rcu) : Option Nat := (b.seq.bind fun q => r.nextFirst q).map (· - 1)

/-- The readable range of a block, lowest and highest number (R149); none when it holds no readable record. A block's
sequence and first number leave the table when its erase begins (R152). -/
def Rcu.rangeOf (b : Block) (r : Rcu) : Option (Nat × Nat) :=
  match b.seq, b.first, r.newest with
  | some _, some f, some n =>
    let hi := min (min (f + (Config.blockSlots - 1)) n) (b.lim.getD n)
    if f ≤ hi then some (f, hi) else none
  | _, _, _ => none

/-- The readable ranges. -/
def Rcu.ranges (r : Rcu) : List (Nat × Nat) := r.blocks.filterMap fun b => r.rangeOf b

/-- A number lies in a readable range. -/
def Rcu.readable (n : Nat) (r : Rcu) : Bool := r.ranges.any fun x => decide (x.1 ≤ n) && decide (n ≤ x.2)

/-- The block and slot that hold a readable number. -/
def Rcu.locate (n : Nat) (r : Rcu) : Option (Nat × Nat) :=
  match r.findBlock (fun b => match r.rangeOf b with
      | some x => decide (x.1 ≤ n) && decide (n ≤ x.2)
      | none => false) with
  | none => none
  | some i => some (i, n - (((r.blocks[i]?).bind (·.first)).getD 0))

/-- The oldest surviving number (R149). -/
def Rcu.oldest (r : Rcu) : Option Nat := (r.ranges.map (·.1)).min?

/-- The lowest number at or above `n` in a readable range. -/
def Rcu.nextReadable (n : Nat) (r : Rcu) : Option Nat :=
  (r.ranges.filterMap fun x => if n ≤ x.2 then some (max n x.1) else none).min?

/-- The store has no room (R151). -/
def Rcu.noRoom (r : Rcu) : Bool := r.openBlock.isNone && r.freeCount == 0 && !r.erasing

/-- The store is FULL, and not READY (R154). -/
def Rcu.isFull (plan : Option Plan) (r : Rcu) : Bool :=
  (((plan.map (·.stopPolicy)).getD false) && decide (r.freeCount < Config.reserveBlocks)) || r.noRoom ||
  r.newest == some Config.lastNumber

/-- READY or FULL: the states in which the store is written. -/
def Rcu.writes (r : Rcu) : Bool := r.store == .ready || r.store == .full

/-- The reserve is looked at: under WRAP, with no erase under way and fewer than two FREE blocks, the FULL block of the
lowest sequence number is to be erased (R151). -/
def Rcu.reserveCheck (plan : Option Plan) (r : Rcu) : Rcu :=
  if r.writes && (plan.map fun p => !p.stopPolicy).getD false && !r.erasing && decide (r.freeCount < Config.reserveBlocks) then
    match r.leastBlock (·.st == .full) (fun b => b.seq.getD 0) with
    | none => r
    | some i => r.setBlock i fun b => { b with st := .erasing .due }
  else r

/-- Records have left the head of the write queue: the retractions stand behind fewer of them (R157). -/
def Rcu.advance (n : Nat) (r : Rcu) : Rcu := { r with retr := r.retr.map fun x => { x with behind := x.behind - n } }

/-- The records of the write queue are discarded, and the entries waiting for room enter it (R146, R151). -/
def Rcu.dropQueue (r : Rcu) : Rcu :=
  let gone := Rcu.discard r.queue { r.advance r.queue.length with queue := [] }
  gone.fill

/-- A record program is under way; its OPEN block has room. -/
def Rcu.programming (r : Rcu) : Bool :=
  match r.port with
  | some (.record ..) => true
  | _ => false

/-- Records that reach the head of the queue of a store with no room are discarded, one after the next, until neither the
queue nor the ring holds any (R151). A ring of 64 entries fills the queue of 8 at most eight times again. -/
def Rcu.dropNoRoom (r : Rcu) : Rcu :=
  if r.writes && r.noRoom && !r.programming && !r.queue.isEmpty then
    r.dropQueue.dropQueue.dropQueue.dropQueue.dropQueue.dropQueue.dropQueue.dropQueue.dropQueue
  else r

/-- READY or FULL by the conditions of R154. -/
def Rcu.judgeStore (plan : Option Plan) (r : Rcu) : Rcu :=
  if r.writes then { r with store := if r.isFull plan then .full else .ready } else r

/-- After a change of the block table, the queue or the plan: the reserve, the records without room, the store state with
STORE_FULL raised on entry to FULL and cleared on leaving it (R151, R154). -/
def storeSettle (s : State) : State :=
  let r := ((s.rcu.reserveCheck s.su.held).dropNoRoom).judgeStore s.su.held
  edgeAlarm .storeFull (s.rcu.store == .full) (r.store == .full) { s with rcu := r }

/-! ## Failures (R153) -/

/-- The running fetch closes with a code: its FETCH_END is created (R162). Codes: 0 END, 1 COUNT, 2 ABORTED,
3 STORE_FAULT. -/
def Rcu.closeFetch (code : Nat) (r : Rcu) : Rcu :=
  match r.fetch with
  | none => r
  | some f =>
    if f.closing then r
    else { r with fetch := some { f with closing := true }
                  outEnd := some (.fetchEnd f.requester f.tag code f.matches_ f.last f.lost f.bad) }

/-- ANSWER codes (R179). -/
def Answer.ok : Nat := 0
def Answer.notFound : Nat := 1
def Answer.already : Nat := 2
def Answer.refused : Nat := 3

/-- The store enters FAULT: the queue is discarded, the ring freed, the waiting retractions answered as refused, the fetch
closed (R153). -/
def enterStoreFault (s : State) : State :=
  let r := s.rcu
  let r1 := (r.addDiscarded r.queue.length).addLost r.ring.length
  let r2 := Rcu.closeFetch 3 { r1 with queue := [], ring := [], retr := [], store := .fault }
  raise .storeFault (edgeAlarm .storeFull (r.store == .full) false
    (r.retr.foldl (fun s x => place .rcu (.answer x.requester x.tag Answer.refused) s) { s with rcu := r2 }))

/-- The consecutive failure count rises by one; at 2 the store enters FAULT (R153). -/
def countFailure (s : State) : State :=
  let s1 := { s with rcu := { s.rcu with fails := s.rcu.fails + 1 } }
  if s1.rcu.fails = 2 then enterStoreFault s1 else s1

/-- A block becomes BAD and its bad mark program is owed (R153). -/
def Rcu.goBad (i : Nat) (r : Rcu) : Rcu :=
  { r.setBlock i (fun b => { b with st := .bad }) with owed := r.owed ++ [.badMark i] }

/-! ## The mount (R155, R156) -/

/-- A 32-bit header field, none when all ones. -/
def headerField (bs : List Byte) (o : Nat) : Option Nat := if rd32 bs o = 0xFFFFFFFF then none else some (rd32 bs o)

/-- The block table entry of a header, by the first rule of R155 it meets; `high` is the highest erase count found. Of a
block cut short while opening or erasing no sequence or first number is kept, and a block marked BAD whose erase count is all
ones takes `high` as an ERASING one does (assumption 60). -/
def mountBlock (locked : Bool) (high : Nat) (bs : List Byte) : Block :=
  let seq := headerField bs 5
  let first := headerField bs 9
  if rd8 bs 4 ≠ 0xFF then ⟨.bad, (headerField bs 0).getD high, seq, first, 0, none⟩
  else match headerField bs 0 with
    | none => if locked then ⟨.bad, high, none, none, 0, none⟩ else ⟨.erasing .due, high, none, none, 0, none⟩
    | some n =>
      if seq.isNone && first.isNone then ⟨.free, n, none, none, 0, none⟩
      else if seq.isNone || first.isNone then ⟨.bad, n, none, none, 0, none⟩
      else ⟨.full, n, seq, first, 0, none⟩

/-- A header with only one of sequence and first number programmed: its bad mark program is owed (R155, rule 4). -/
def cutShortOpening (bs : List Byte) : Bool :=
  rd8 bs 4 == 0xFF && (headerField bs 0).isSome && ((headerField bs 5).isNone != (headerField bs 9).isNone)

/-- The slots of a block written before the first one whose 64 bytes are all 0xFF (R155). -/
def writtenSlots (m : List Host.Cell) (blk : Nat) : Nat :=
  ((List.range Config.blockSlots).takeWhile fun i => (flashBytes m (slotAddr blk i) 64).any (· != 0xFF#8)).length

/-- The block table, owed bad marks and newest number that the mount builds from the flash (R155, R156). -/
def mountTable (locked : Bool) (m : List Host.Cell) (r : Rcu) : Rcu :=
  let hs := (List.range Config.flashBlocks).map fun i => flashBytes m (headerAddr i) 32
  let high := ((hs.filterMap fun h => headerField h 0).max?).getD 0
  let bs := hs.map (mountBlock locked high)
  let owed := if locked then [] else
    (List.range Config.flashBlocks).filterMap fun i => if cutShortOpening (hs.getD i []) then some (Owed.badMark i) else none
  let r0 := { r with blocks := bs, owed := owed, newest := none, fails := 0 }
  let r1 := { r0 with blocks := bs.map fun b => { b with lim := r0.boundOf b } }
  match ((bs.filter (·.first.isSome)).filterMap (·.seq)).max? with
  | none => r1
  | some q =>
    match r1.findBlock (fun b => b.seq == some q && b.first.isSome) with
    | none => r1
    | some i =>
      let n := writtenSlots m i
      let f := ((bs[i]?).bind (·.first)).getD 0
      { r1.setBlock i (fun b => { b with
          written := n, st := if b.st == .full && decide (n < Config.blockSlots) then .opened else b.st }) with
        newest := if f + n ≤ 1 then none else some (f + n - 1) }

/-- The store state at the end of the mount, before R154 tells READY from FULL: LOCKED by the strap, FAULT when the flash
did not answer (R154, R155); LOCKED also when a flash with the strap set did not answer (assumption 70). -/
def mountStore (locked answered : Bool) : StoreSt := if locked then .locked else if answered then .ready else .fault

end Sys2Proof.Machine
end

