-- ==== Sys2Proof/Machine/Fetch.lean ====
section
/-! DEFINITION. The fetch engine and the retraction requests (R157 to R164): what the RCU does with FETCH, CANCEL and
RETRACT, the check of the cursor, the judgement of a record read, and the fetch output queue. -/

namespace Sys2Proof.Machine

/-! ## Codes (R179) -/

def FetchCode.done : Nat := 0
def FetchCode.count : Nat := 1
def FetchCode.aborted : Nat := 2
def FetchCode.storeFault : Nat := 3
def FetchCode.busy : Nat := 4

/-- A FETCH whose fields hold defined codes; a FETCH with another is ignored (R179). -/
def FetchNote.defined (f : FetchNote) : Bool :=
  decide (f.kinds < 8) && decide (f.verdicts < 32) && decide (f.cmp ≤ 3) && decide (f.skip ≤ 1)

/-! ## Taking a FETCH (R159) -/

/-- The end of a fetch: the lower of its last number and the newest number now. -/
def Rcu.fetchEnd (f : FetchNote) (r : Rcu) : Nat :=
  if f.last = 0xFFFFFFFF then r.newest.getD 0 else min f.last (r.newest.getD 0)

/-- The start of a fetch: the higher of its first number and the oldest surviving number. -/
def Rcu.fetchStart (f : FetchNote) (r : Rcu) : Nat := max f.first (r.oldest.getD 0)

/-- The fetch as it is taken: its range fixed, every count 0. -/
def Rcu.newFetch (requester : Nat) (f : FetchNote) (r : Rcu) : Fetch where
  tag := f.tag
  requester := requester
  start := r.fetchStart f
  lim := r.fetchEnd f
  kinds := f.kinds
  strip := f.strip
  verdicts := f.verdicts
  cmp := f.cmp
  value := f.value
  skip := f.skip == 1
  max := f.max
  cursor := r.fetchStart f
  matches_ := 0
  last := 0
  lost := 0
  bad := 0
  closing := false

/-- A fetch is taken; it goes straight to CLOSING with COUNT for a maximum of 0, and else with END for an
empty range (R159, assumption 62). -/
def Rcu.takeFetch (requester : Nat) (f : FetchNote) (r : Rcu) : Rcu :=
  let taken := { r with fetch := some (r.newFetch requester f) }
  if f.max = 0 then taken.closeFetch FetchCode.count
  else if r.oldest.isNone || decide (r.fetchEnd f < r.fetchStart f) then taken.closeFetch FetchCode.done
  else taken

/-- A FETCH addressed to this station (R159). -/
def handleFetch (requester : Nat) (f : FetchNote) (s : State) : State :=
  if !f.defined then s
  else if s.rcu.fetch.isSome || s.rcu.store == .mounting then
    place .rcu (.fetchEnd requester f.tag FetchCode.busy 0 0 0 0) s
  else if s.rcu.store == .fault then place .rcu (.fetchEnd requester f.tag FetchCode.storeFault 0 0 0 0) s
  else { s with rcu := s.rcu.takeFetch requester f }

/-! ## CANCEL (R163) -/

/-- A read or a mark under way whose result is no longer wanted. -/
def FlashOp.forget : FlashOp → FlashOp
  | .read b i _ => .read b i false
  | .mark r _ => .mark r false
  | o => o

/-- A read under way whose record is no longer wanted. -/
def FlashOp.forgetRead : FlashOp → FlashOp
  | .read b i _ => .read b i false
  | o => o

/-- A CANCEL addressed to this station. -/
def handleCancel (tag : Nat) (s : State) : State :=
  match s.rcu.fetch with
  | none => s
  | some f =>
    if f.tag = tag ∧ f.closing = false then
      let r := s.rcu
      let r1 := { r with outRec := [], port := r.port.map FlashOp.forgetRead,
                         fetch := some { f with matches_ := f.matches_ - r.outRec.length } }
      { s with rcu := r1.closeFetch FetchCode.aborted }
    else s

/-! ## RETRACT (R164) -/

/-- A RETRACT addressed to this station. -/
def handleRetract (requester tag n : Nat) (s : State) : State :=
  let r := s.rcu
  if r.store == .mounting || r.store == .locked || r.store == .fault then
    place .rcu (.answer requester tag Answer.refused) s
  else
    match r.oldest, r.newest with
    | some lo, some hi =>
      if n < lo ∨ hi < n then place .rcu (.answer requester tag Answer.notFound) s
      else if Config.retractions ≤ r.retr.length then place .rcu (.answer requester tag Answer.refused) s
      else { s with rcu := { r with retr := r.retr ++ [⟨tag, n, requester, r.queue.length⟩] } }
    | _, _ => place .rcu (.answer requester tag Answer.notFound) s

/-! ## The scan (R160) -/

/-- A record program is under way or owed for the head of the write queue. -/
def Rcu.programOwed (r : Rcu) : Bool :=
  (match r.port with | some (.record ..) => true | _ => false) || (r.writes && !r.queue.isEmpty)

/-- The fetch engine asks the port: the fetch is SCANNING and the output queue holds fewer than four RECORD notes. -/
def Rcu.scanning (r : Rcu) : Bool :=
  ((r.fetch.map fun f => !f.closing).getD false) && decide (r.outRec.length < Config.fetchRecords)

/-- The cursor jumps to the lowest readable number above it, or past the end when there is none; each number passed over is
counted lost (R160, R161). -/
def Rcu.jump (f : Fetch) (r : Rcu) : Fetch :=
  let target := (r.nextReadable f.cursor).getD (f.lim + 1)
  { f with cursor := target, lost := satAdd 65535 f.lost (target - f.cursor), last := target - 1 }

/-- The check of the cursor before a read (R160). -/
def Rcu.checkCursor (r : Rcu) : Rcu :=
  match r.fetch with
  | none => r
  | some f =>
    if f.lim < f.cursor then r.closeFetch FetchCode.done
    else if (r.newest.getD 0) < f.cursor then
      if r.programOwed then r
      else Rcu.closeFetch FetchCode.done { r with fetch := some { f with lim := r.newest.getD 0 } }
    else if r.readable f.cursor then r
    else
      let g := r.jump f
      let r1 := { r with fetch := some g }
      if g.lim < g.cursor then r1.closeFetch FetchCode.done else r1

/-- The block and slot of the record the scan reads next, when it can read one. -/
def Rcu.wantsRead (r : Rcu) : Option (Nat × Nat) :=
  if r.scanning then r.fetch.bind fun f => r.locate f.cursor else none

/-- The criteria of a fetch on the 64 bytes of a record (R160, R179). -/
def Fetch.matchesRecord (f : Fetch) (bs : List Byte) : Bool :=
  let kind := rd8 bs 4
  let force := rd16 bs 21
  between 1 kind 3 && f.kinds.testBit (kind - 1) && (f.strip == 0 || f.strip == rd16 bs 6) &&
  (decide (rd8 bs 24 ≤ 4) && f.verdicts.testBit (rd8 bs 24)) &&
  (f.cmp == 0 || (f.cmp == 1 && force == f.value) || (f.cmp == 2 && decide (force ≤ f.value)) ||
    (f.cmp == 3 && decide (f.value ≤ force)))

/-- The retraction mark of a record as read (R182). -/
def markOf (bs : List Byte) : Byte := bs.getD 63 0

/-- A record read by the scan is judged (R160). -/
def Rcu.judgeRead (bs : List Byte) (r : Rcu) : Rcu :=
  match r.fetch with
  | none => r
  | some f =>
    let g := { f with last := f.cursor, cursor := f.cursor + 1 }
    if !recordGood bs then { r with fetch := some { g with bad := satAdd 65535 g.bad 1 } }
    else if g.skip && markOf bs != 0xFF#8 then { r with fetch := some g }
    else if g.matchesRecord bs then
      let r1 := { r with fetch := some { g with matches_ := g.matches_ + 1 },
                         outRec := r.outRec ++ [.record g.requester g.tag bs] }
      if g.matches_ + 1 = g.max then r1.closeFetch FetchCode.count else r1
    else { r with fetch := some g }

/-! ## The fetch output queue (R20, R158) -/

/-- The notes of the output queue: at most four RECORD notes, and the FETCH_END once no RECORD stands before it. -/
def Rcu.outNotes (r : Rcu) : List Note := r.outRec ++ r.outEnd.toList

/-- The notes in flight leave the output queue; a fetch whose FETCH_END has been sent ends (R158). -/
def Rcu.outSent (r : Rcu) : Rcu :=
  if r.outRec.length < r.outFlight then { r with outRec := [], outEnd := none, fetch := none, outFlight := 0 }
  else { r with outRec := r.outRec.drop r.outFlight, outFlight := 0 }

/-- The notes in flight go back to the head of the output queue (R20). -/
def Rcu.outUnsent (r : Rcu) : Rcu := { r with outFlight := 0 }

/-- On every entry to LISTEN and at a restart the running fetch ends with no FETCH_END, the output queue and the retraction
list are emptied, and what the port has under way answers nobody (R158, R164). -/
def Rcu.dropFetch (r : Rcu) : Rcu :=
  { r with fetch := none, outRec := [], outEnd := none, outFlight := 0, retr := [], port := r.port.map FlashOp.forget }

end Sys2Proof.Machine
end

