-- ==== Sys2Proof/Machine/Scheduler.lean ====
section
/-! DEFINITION. The Work Scheduler: eligibility (R64, R65), the frame-build check of a CLAIM (R21), selection (R66) with the
untestable results (R117), skip requests (R71), the closing of claims (R74, R75), takt (R73) and the vote record (R77). -/

namespace Sys2Proof.Machine

/-! ## Eligibility (R64, R65) -/

/-- The table with the station's QUEUED entries counted as its claims. -/
def State.queuedTable (s : State) (t : Table) : Table :=
  s.wsc.claims.foldl (fun t e => if e.held then t else markClaim t s.stn e.win e.unit e.group) t

/-- The traced wires a claim on group g of unit u has still to bond: on a test unit of a sampled strip, the witness wires
from the recorded progress on (R64, R142). -/
def tracedCount (p : Plan) (x : Strip) (u g : Nat) : Nat :=
  if x.sampled && p.tests.contains u then
    let done := (((x.units[u]?).bind (·.groups[g]?)).map (·.progress)).getD 0
    ((witnessIdx (((p.groups[g]?).map (·.wires)).getD [])).filter (fun i => decide (done ≤ i))).length
  else 0

/-- The trace room and the store admit a claim with `n` traced wires (R64). -/
def Rcu.admits (n : Nat) (r : Rcu) : Bool := n == 0 || (decide (n ≤ r.room) && r.store == .ready)

/-- A skip request of the station waits on a unit (R71). -/
def Wsc.skipWaits (w u : Nat) (k : Wsc) : Bool := k.skips.any fun e => e.win == w && e.unit == u

/-- The task a unit offers the seat in a table: its lowest eligible group, or its test as group code 4. The parts that do
not concern the unit are `mayTake`. -/
def State.taskOf (s : State) (p : Plan) (seat : Seat) (t : Table) (u : Nat) : Option Nat :=
  if s.wsc.skipWaits seat.win u then none
  else if seat.pull then (if pullTable p t s.stn seat.win u then some 4 else none)
  else
    match t.win? seat.win with
    | none => none
    | some x =>
      (List.range p.groupCount).find? fun g =>
        bondTable p t s.stn seat.win u g seat.cls && s.rcu.admits (tracedCount p x u g)

/-- ACTIVE, takt RUNNING, BSQ RUNNING or IDLE (taken as met when `idle`), fewer than two entries. -/
def State.mayTake (idle : Bool) (s : State) : Bool :=
  s.lnk.st == .active && s.wsc.takt == .running && (idle || s.bsq.st == .running || s.bsq.st == .idle) &&
  decide (s.wsc.claims.length < Config.ownClaims)

/-- The first eligible task in the order of the seat's side (R66): unit and group. -/
def State.firstTask (idle : Bool) (s : State) : Option (Nat × Nat) :=
  match s.seating, s.table with
  | some (p, seat), some t =>
    if s.mayTake idle then
      (p.scan seat.left).findSome? fun u => (s.taskOf p seat (s.queuedTable t) u).map fun g => (u, g)
    else none
  | _, _ => none

/-! ## The own claim list (R62, R63) -/

/-- The entry names a task. -/
def OwnClaim.isTask (w u g : Nat) (e : OwnClaim) : Bool := e.win == w && e.unit == u && e.group == g

/-- An entry of the work list is of a given task. -/
def WorkEntry.isTask (w u g : Nat) (e : WorkEntry) : Bool := e.win == w && e.unit == u && e.group == g

/-- Entries are removed and their reservations returned (R63, R142). -/
def dropClaims (f : OwnClaim → Bool) (s : State) : State :=
  { s with wsc := { s.wsc with claims := s.wsc.claims.filter fun e => !f e }
           rcu := (s.wsc.claims.filter f).foldl (fun r e => r.unreserve e.strip e.unit e.group) s.rcu }

/-- The QUEUED entries that a test selects and whose CLAIM is not in flight are removed, their CLAIM notes taken out of the
queue or the waiting requests (R74, R75, R101). -/
def closeQueued (f : OwnClaim → Bool) (s : State) : State :=
  let goes := fun (e : OwnClaim) => !e.held && f e && !s.lnk.noteFlying (.claim e.win e.unit e.group)
  let gone := s.wsc.claims.filter goes
  let s1 := dropClaims goes s
  { s1 with lnk := s1.lnk.takeOut fun n => gone.any fun e => n == .claim e.win e.unit e.group }

/-- The frame-build check of a CLAIM (R21, R58), `placed` being the CLAIM tasks already placed in the frame. -/
def State.recheck (placed : List (Nat × Nat × Nat)) (w u g : Nat) (s : State) : Bool :=
  match s.seating, s.table with
  | some (p, seat), some t =>
    let t' := placed.foldl (fun t x => markClaim t s.stn x.1 x.2.1 x.2.2) t
    decide ((s.wsc.claims.filter (·.held)).length + placed.length < Config.ownClaims) && seat.win == w &&
    (if g = 4 then seat.pull && pullTable p t' s.stn w u else !seat.pull && bondTable p t' s.stn w u g seat.cls) &&
    (s.lnk.st == .active || (Note.reads p (.claim w u g)).all fun n => s.ctu.copied.getD n false)
  | _, _ => false

/-! ## Selection (R66, R117) -/

/-- One claim of a selection: its entry, its CLAIM note and its reservation (R63, R66, R142). None while a request of the WSC
waits (R19). -/
def selectOne (s : State) : State :=
  if s.lnk.waits .wsc then s else
  match s.seating, s.table with
  | some (p, seat), some t =>
    match s.firstTask false, t.win? seat.win with
    | some (u, g), some x =>
      place .wsc (.claim seat.win u g)
        { s with wsc := { s.wsc with claims := s.wsc.claims ++ [⟨seat.win, u, g, x.id, false⟩] }
                 rcu := s.rcu.reserve x.id u g (if g = 4 then 0 else tracedCount p x u g) }
    | _, _ => s
  | _, _ => s

/-- The untestable PULL_RESULT of a unit (R117). -/
def untestableNote (w strip u : Nat) : Note := .pullResult ⟨w, strip, u, 4, 0, 0xFF, 0, 0, 0, Verdict.noResult⟩

/-- The test of a unit is PENDING and some group is FAILED or UNKNOWN (R117). -/
def UEntry.untestable (e : UEntry) : Bool := e.test == .pending && someLost e

/-- The test units of the pull window that the WSC closes as untestable (R117), in the order of the plan's list
(assumption 57). -/
def State.untestables (s : State) : List (Nat × Nat × Nat) :=
  match s.seating, s.table with
  | some (p, seat), some t =>
    match t.win? seat.win with
    | some x =>
      if seat.pull && t.phase == .opened && x.sampled then
        (p.tests.filter fun u => ((x.units[u]?).map UEntry.untestable).getD false && !s.wsc.untestable.contains (x.id, u)).map
          fun u => (seat.win, x.id, u)
      else []
    | none => []
  | _, _ => []

/-- One untestable PULL_RESULT with its entry in the untestable list. None while a request of the WSC waits (R19), nor while
the list holds its 4 entries (R110): a later selection creates it (assumption 74). -/
def closeUntestable (s : State) (x : Nat × Nat × Nat) : State :=
  if s.lnk.waits .wsc || decide (Config.untestables ≤ s.wsc.untestable.length) then s else
  place .wsc (untestableNote x.1 x.2.1 x.2.2)
    { s with wsc := { s.wsc with untestable := s.wsc.untestable ++ [(x.2.1, x.2.2)] } }

/-- An untestable PULL_RESULT has been applied or refused, or has left the queue neither applied nor refused: its entry leaves
the untestable list, which names notes queued or waiting (R110, R117). -/
def endUntestable (n : PullNote) (s : State) : State :=
  if n.group = 4 then { s with wsc := { s.wsc with untestable := s.wsc.untestable.filter (· != (n.strip, n.unit)) } } else s

/-- A selection (R66, R117): claims until the list holds two entries or no task is eligible, then the untestable units. -/
def select (s : State) : State :=
  if s.lnk.st = .active then
    let s1 := selectOne (selectOne s)
    s1.untestables.foldl closeUntestable s1
  else s

/-! ## Skip requests (R71) -/

/-- The unit a skip request names is still the OPEN unit of its strip. -/
def SkipReq.stands (t : Table) (k : SkipReq) : Bool :=
  ((t.win? k.win).map (·.id)) == some k.strip && ((t.unit? k.win k.unit).map (·.st == .opened)).getD false

/-- A WAITING request may be sent: ACTIVE, no CLAIMED group or test on the unit, no QUEUED entry of this station, and no
request of the WSC waiting (R19). -/
def State.skipReady (s : State) (t : Table) (k : SkipReq) : Bool :=
  !k.sent && !s.lnk.waits .wsc && s.lnk.st == .active && !((t.unit? k.win k.unit).map UEntry.claimed).getD false &&
  !s.wsc.claims.any fun e => !e.held && e.win == k.win && e.unit == k.unit

/-- One entry looked at: sent when it is ready. -/
def skipOne (t : Table) (s : State) (k : SkipReq) : State :=
  if s.skipReady t k then
    place .wsc (.skip k.win k.unit)
      { s with wsc := { s.wsc with skips := s.wsc.skips.map fun x => if x = k then { x with sent := true } else x } }
  else s

/-- A SKIP note. -/
def Note.isSkip : Note → Bool
  | .skip .. => true
  | _ => false

/-- A SENT entry of the skip request list waits for a note (R71). -/
def Wsc.skipSent (k : Wsc) (n : Note) : Bool := k.skips.any fun e => e.sent && n == .skip e.win e.unit

/-- The SKIP notes that no SENT entry waits for any more and that are not in flight are taken out: their request has left the
list before them (R71, assumption 64). -/
def dropStray (s : State) : State := { s with lnk := s.lnk.takeOut fun n => n.isSkip && !s.wsc.skipSent n }

/-- Entries are removed, with the SKIP notes of the SENT ones that are not in flight (R71). -/
def endSkips (f : SkipReq → Bool) (s : State) : State :=
  let gone := s.wsc.skips.filter f
  { s with wsc := { s.wsc with skips := s.wsc.skips.filter fun k => !f k }
           lnk := s.lnk.takeOut fun n => gone.any fun k => k.sent && n == .skip k.win k.unit }

/-- The index of a request's strip has begun: the phase is not OPEN, or the window holds another strip or none. The table
shows it so when INDEX_START was not applied in RESYNC (R71, assumption 64). -/
def SkipReq.indexed (t : Table) (k : SkipReq) : Bool := t.phase != .opened || ((t.win? k.win).map (·.id)) != some k.strip

/-- The SKIP of an entry removed because its unit is not OPEN stays queued only while the INDEX_START that ends it unsent will
be applied here: in ACTIVE with the phase OPEN (R19, R71, assumption 64). -/
def settleStray (t : Table) (s : State) : State :=
  if s.lnk.st = .active ∧ t.phase = .opened then s else dropStray s

/-- The WSC looks at each entry in list order. A skip not sent before the index ends unsent. -/
def skipScan (s : State) : State :=
  match s.table with
  | none => s
  | some t =>
    let s1 := endSkips (SkipReq.indexed t) s
    let kept := s1.wsc.skips.filter (SkipReq.stands t)
    kept.foldl (skipOne t) (settleStray t { s1 with wsc := { s1.wsc with skips := kept } })

/-- The SKIP key for a unit of this station's window (R71). -/
def requestSkip (w u : Nat) (s : State) : State :=
  match s.table with
  | none => s
  | some t =>
    match t.win? w with
    | none => s
    | some x =>
      if s.working && t.phase == .opened && ((t.unit? w u).map (·.st == .opened)).getD false &&
          !s.wsc.skipWaits w u && decide (s.wsc.skips.length < Config.skipRequests) then
        skipScan { s with wsc := { s.wsc with skips := s.wsc.skips ++ [⟨w, x.id, u, false⟩] } }
      else s

/-- This station's own SKIP was applied: its SENT entry leaves the list; refused: it returns to WAITING. -/
def skipAnswered (applied : Bool) (w u : Nat) (s : State) : State :=
  let sk := s.wsc.skips
  { s with wsc := { s.wsc with
      skips := if applied then sk.filter fun k => !(k.sent && k.win == w && k.unit == u)
        else sk.map fun k => if k.sent && k.win == w && k.unit == u then { k with sent := false } else k } }

/-- On INDEX_START every entry is removed, with every SKIP note that is not in flight: those of SENT entries, and those whose
entry a look of the WSC has removed before (R71, R79). -/
def dropSkips (s : State) : State := dropStray { s with wsc := { s.wsc with skips := [] } }

/-! ## Takt, pull memory, the emptying of the WSC -/

/-- The takt timer starts with the full limit (R73). -/
def startTakt (s : State) : State := { s with wsc := { s.wsc with takt := .running } }

/-- The state of the WSC on entry to LISTEN and on a drop to JOINING (R62, R110); the reservations of its claims return
(R142). -/
def clearWsc (s : State) : State :=
  { s with wsc := .reset, rcu := s.wsc.claims.foldl (fun r e => r.unreserve e.strip e.unit e.group) s.rcu }

/-- The resulted count of a unit on a strip (R110). -/
def Wsc.resulted (strip u : Nat) (k : Wsc) : Nat :=
  ((k.pulls.find? fun m => m.strip == strip && m.unit == u).map (·.count)).getD 0

/-- An own result applied: the resulted count rises to one past its position (R119). -/
def Wsc.remember (p : Plan) (n : PullNote) (k : Wsc) : Wsc :=
  match p.pullList.idxOf? (n.group, n.wire) with
  | none => k
  | some i =>
    if k.resulted n.strip n.unit < i + 1 then
      { k with pulls := k.pulls.filter (fun m => !(m.unit == n.unit)) ++ [⟨n.strip, n.unit, i + 1⟩] }
    else k

/-! ## The vote record (R77) -/

/-- The record is started afresh at the end of an own frame read back whole, on a station acting as feed. -/
def startVoteRec (s : State) : State :=
  { s with wsc := { s.wsc with voteRec := if s.actsFeed then some ⟨false, []⟩ else none } }

/-- The record of a station that does not act as feed is not started. -/
def settleVoteRec (s : State) : State :=
  if s.actsFeed then s else { s with wsc := { s.wsc with voteRec := none } }

/-- A slot with number `k` ended, with a vetoing frame or voter or not. -/
def Wsc.slotEnded (k : Nat) (veto : Bool) (w : Wsc) : Wsc :=
  { w with voteRec := w.voteRec.map fun r => ⟨r.vetoed || veto, if r.ended.contains k then r.ended else r.ended ++ [k]⟩ }

/-- The record is complete and not vetoed: each of the other seven slot numbers has ended. -/
def State.voteRecYes (s : State) : Bool :=
  match s.wsc.voteRec with
  | none => false
  | some r => !r.vetoed && (List.range 8).all fun k => k == s.stn || r.ended.contains k

end Sys2Proof.Machine
end

