-- ==== Sys2Proof/Machine/Sequencer.lean ====
section
/-! DEFINITION. The Bond Sequencer (R86 to R108, R111 to R113, R115): what it does of its own accord when no command is
outstanding (`drive`), the closing and dropping of claims, completions, alerts, keys, the restart, and `settle`, which runs
sequencer and selection after every event. -/

namespace Sys2Proof.Machine

/-! ## Small parts -/

/-- A head command is sent with the next tag and the head timeout of the held plan, or 2000 ms (R86, R89). -/
def sendHead (c : HeadCmd) (s : State) : State :=
  { s with bsq := { s.bsq with out := some ⟨c, s.bsq.nextTag, (s.su.held.map (·.headTimeout)).getD 2000⟩
                               nextTag := s.bsq.nextTag + 1 } }

/-- Head commands may be sent: not before the station first leaves LISTEN, and not in HELD_CHECK (R90). -/
def State.headFree (s : State) : Bool := s.bsq.enabled && s.lnk.st != .heldCheck

/-- The station is strapped to the pull role. -/
def State.pullRole (s : State) : Bool := s.su.straps.role == .pull

/-- The head is reported PARKED (R90). -/
def Bsq.parked (b : Bsq) : Bool := b.head == .parked && b.out.isNone

/-- The recorded progress of a group in the replica. -/
def State.progress (s : State) (w u g : Nat) : Nat :=
  (((s.table.bind (·.unit? w u)).bind (·.groups[g]?)).map (·.progress)).getD 0

/-- The wire retry limit of the held plan. -/
def State.retryLimit (s : State) : Nat := (s.su.held.map (·.retryLimit)).getD 0

/-- The unit's pull list less the leading entries already resulted (R111). -/
def State.pullsLeft (s : State) (base : Nat) : List (Nat × Nat) := ((s.su.held.map Plan.pullList).getD []).drop base

/-- The first work list entry leaves the list, and the cursor with it (R100). -/
def Bsq.leave (b : Bsq) : Bsq := { b with work := b.work.drop 1, cursor := none }

/-- The BSQ reports the end of a claim: the WSC places the note, and the entry leaves the work list (R100). -/
def reportEnd (n : Note) (s : State) : State := place .wsc n { s with bsq := s.bsq.leave }

/-- The RELEASE of a work list entry: 0 for a test, the wire index for the claim at the cursor, the recorded progress for one
not started (R100). -/
def State.releaseNote (s : State) (e : WorkEntry) (c : Option Cursor) : Note :=
  .release e.win e.unit e.group
    (if e.group = 4 then 0
     else match c with
       | some c => c.idx
       | none => s.progress e.win e.unit e.group)

/-- A wire to bond (R86): unit row and column, the wire's fields from the plan. -/
def wireCmd (p : Plan) (u : Nat) (w : Wire) : HeadCmd := .wire (p.row u) (p.col u) w.site1 w.site2 w.loop w.sched w.witness

/-- A wire to hook (R111): its first site, the loop profile as pull height. -/
def hookCmd (p : Plan) (u : Nat) (w : Wire) : HeadCmd := .hookPull (p.row u) (p.col u) w.site1 w.loop

/-- The PULL_RESULT of a pull outcome waits to enter the outgoing queue: the BSQ waits with it (R112). One of an untestable
unit, group code 4, is no pull outcome (R117). -/
def Lnk.pullWaits (l : Lnk) : Bool :=
  l.waiting.any fun q => q.producer == .wsc && (match q.note with | .pullResult n => n.group != 4 | _ => false)

/-! ## Working the claim at the head of the list (R92 to R94, R101, R111, R112) -/

/-- The claim at the head of the work list gets its cursor (R93, R111). -/
def startClaim (e : WorkEntry) (s : State) : State :=
  let base := if e.group = 4 then s.wsc.resulted e.strip e.unit else 0
  let idx := if e.group = 4 then 0 else s.progress e.win e.unit e.group
  { s with bsq := { s.bsq with cursor := some ⟨idx, base, false, false⟩, retry := 0 } }

/-- The cursor of a claim whose wire is sent. -/
def Bsq.onWire (c : Cursor) (b : Bsq) : Bsq := { b with cursor := some { c with again := false, started := true } }

/-- One step on a group (R93, R94, R96, R101): bonded, released, unparked, the next wire or the same one again. -/
def workGroup (e : WorkEntry) (c : Cursor) (s : State) : State :=
  match s.su.held with
  | none => s
  | some p =>
    match p.wire? e.group c.idx with
    | none => reportEnd (.done e.win e.unit e.group 0) s
    | some w =>
      if e.mark = .release ∧ c.again = false then reportEnd (s.releaseNote e (some c)) s
      else if s.headFree = false then s
      else if c.started = false ∧ s.bsq.head ≠ .atWork then sendHead .unpark s
      else sendHead (wireCmd p e.unit w) { s with bsq := s.bsq.onWire c }

/-- One step on a test (R111, R112): done, released, or the next wire of the claim's pull list. -/
def workTest (e : WorkEntry) (c : Cursor) (s : State) : State :=
  match s.su.held with
  | none => s
  | some p =>
    match (s.pullsLeft c.base)[c.idx]?.bind fun x => p.wire? x.1 x.2 with
    | none => reportEnd (.done e.win e.unit 4 0) s
    | some w =>
      if e.mark = .release ∧ c.again = false then reportEnd (s.releaseNote e (some c)) s
      else if s.headFree = false ∨ s.lnk.pullWaits = true then s
      else sendHead (hookCmd p e.unit w) { s with bsq := s.bsq.onWire c }

/-- The claim at the head of the list is started, worked on or dropped (R93, R104). In FINISHING a claim not started is
released with its recorded progress (R101). -/
def workHead (e : WorkEntry) (s : State) : State :=
  if e.mark = .drop then { s with bsq := s.bsq.leave }
  else
    match s.bsq.cursor with
    | none =>
      if s.bsq.st = .finishing then reportEnd (s.releaseNote e none) s else startClaim e s
    | some c => if e.group = 4 then workTest e c s else workGroup e c s

/-- The conditions of R91 under which an IDLE BSQ parks, beside its own state: the own claim list empty and no eligible task,
or the takt EXPIRED, also with a CLAIM in flight (assumption 67). -/
def State.mayPark (s : State) : Bool :=
  (s.wsc.claims.isEmpty && (s.firstTask false).isNone) || s.wsc.takt == .expired

/-- A RUNNING BSQ whose work list is empty becomes IDLE (R100). -/
def Bsq.idleWhenEmpty (b : Bsq) : Bsq :=
  if b.st = .running ∧ b.work = [] ∧ b.stop = false then { b with st := .idle, cursor := none } else b

/-- Under a stop request the work list is emptied without reports (R105). A claim handed over since the stop leaves the own
claim list with its reservation (R142, assumption 68). -/
def endStopped (s : State) : State :=
  if s.bsq.stop then
    let handed := s.bsq.work.filter (·.mark != .drop)
    dropClaims (fun c => handed.any fun e => c.isTask e.win e.unit e.group) { s with bsq := { s.bsq with work := [], cursor := none } }
  else s

/-- The stop request is cleared; from RUNNING the BSQ becomes IDLE (R105). -/
def State.stopEnded (s : State) : State :=
  { s with bsq := { s.bsq with stop := false, st := if s.bsq.st = .running then .idle else s.bsq.st } }

/-- After a stop an IDLE BSQ sends PARK unless its head is PARKED, whatever the own claim list holds (R105). -/
def parkStopped (s : State) : State :=
  if s.bsq.st = .idle ∧ s.bsq.head ≠ .parked ∧ s.headFree = true then sendHead .park s else s

/-- One move of the BSQ. With a command outstanding it only becomes IDLE when its last claim has left the list (R100, R102,
R104). -/
def driveStep (s : State) : State :=
  if s.su.run != .running then s
  else if s.bsq.out.isSome then { s with bsq := s.bsq.idleWhenEmpty }
  else if s.bsq.stop then parkStopped (endStopped s).stopEnded
  else
    match s.bsq.st with
    | .running =>
      match s.bsq.work with
      | [] => { s with bsq := { s.bsq with st := .idle, cursor := none } }
      | e :: _ => workHead e s
    | .finishing =>
      match s.bsq.work with
      | [] =>
        if s.bsq.head = .parked then { s with bsq := { s.bsq with st := .paused, cursor := none } }
        else if s.headFree then sendHead .park s else s
      | e :: _ => workHead e s
    | .idle =>
      if s.headFree && s.bsq.work.isEmpty && s.bsq.head != .parked && s.mayPark then sendHead .park s else s
    | _ => s

/-- A number of moves. -/
def driveN : Nat → State → State
  | 0, s => s
  | n + 1, s => driveN n (driveStep s)

/-- Nothing is left to do at once: each claim ends in at most two moves, and four more stop, idle and park. -/
def drive (s : State) : State := driveN (2 * s.bsq.work.length + 4) s

/-! ## Halts (R97, R98, R101, R103) -/

/-- Every claim of the work list is released at once, the claim at the cursor with its wire index; one marked DROP leaves
without a report (R101, R103, R104). -/
def releaseWork (f : WorkEntry → Bool) (s : State) : State :=
  let b := s.bsq
  let notes := (b.work.zipIdx.filter fun x => f x.1 && x.1.mark != .drop).map fun x =>
    s.releaseNote x.1 (if x.2 = 0 then b.cursor else none)
  let headGoes := ((b.work[0]?).map f).getD false
  notes.foldl (fun s n => place .wsc n s)
    { s with bsq := { b with work := b.work.filter fun e => !f e, cursor := if headGoes then none else b.cursor } }

/-- In HALTED and SPOOL_OUT entries marked RELEASE or DROP leave at once (R103, R104). -/
def dropMarked (s : State) : State := releaseWork (fun e => e.mark != .none) s

/-- The cursor of a wire that is to be sent again by the clear, not as a retry. -/
def Bsq.noRetry (b : Bsq) : Bsq := { b with cursor := b.cursor.map fun c => { c with again := false } }

/-- The BSQ enters HALTED (R97): from FINISHING every claim is released (R101). -/
def enterHalted (s : State) : State :=
  let all := s.bsq.st == .finishing
  let s1 := if s.bsq.st = .spoolOut then clearAlarm .spoolOut s else s
  let s2 := raise .headHalted { s1 with bsq := { s1.bsq.noRetry with st := .halted, head := .unknown } }
  if all then releaseWork (fun _ => true) s2 else dropMarked s2

/-- The BSQ enters SPOOL_OUT (R98), its head position kept. -/
def enterSpoolOut (s : State) : State :=
  let all := s.bsq.st == .finishing
  let s1 := if s.bsq.st = .halted then clearAlarm .headHalted s else s
  let s2 := raise .spoolOut { s1 with bsq := { s1.bsq.noRetry with st := .spoolOut } }
  if all then releaseWork (fun _ => true) s2 else dropMarked s2

/-- HALTED or SPOOL_OUT. -/
def Bsq.stopped (b : Bsq) : Bool := b.st == .halted || b.st == .spoolOut

/-- An alert acted on with no command outstanding (R88); the pull role has no SPOOL_OUT. -/
def actAlert (a : AlertKind) (s : State) : State :=
  if s.bsq.stopped then s
  else if a = .wireOut ∧ s.pullRole = false then enterSpoolOut s
  else enterHalted s

/-- The BSQ leaves HALTED or SPOOL_OUT by a clear answered with DONE (R99, R108). -/
def leaveHalt (pos : HeadPos) (s : State) : State :=
  let s1 := clearAlarm .spoolOut (clearAlarm .headHalted s)
  { s1 with bsq := { s1.bsq with head := pos, retry := 0, st := if s1.bsq.work.isEmpty then .idle else .running } }

/-! ## Completions (R87, R89, R94 to R99, R112, R113) -/

/-- The completions R87 allows for a command. -/
def allowed : HeadCmd → Completion → Bool
  | .park, .done _ | .park, .overtravel | .park, .headFault => true
  | .unpark, .done _ | .unpark, .wireOut | .unpark, .noBall | .unpark, .overtravel | .unpark, .headFault => true
  | .wire .., .done _ | .wire .., .nsop | .wire .., .nsol | .wire .., .noBall | .wire .., .shortTail
  | .wire .., .wireOut | .wire .., .overtravel | .wire .., .headFault => true
  | .rethread, .done _ | .rethread, .wireOut | .rethread, .noBall | .rethread, .shortTail | .rethread, .overtravel
  | .rethread, .headFault => true
  | .hookPull .., .pulled .. | .hookPull .., .hookMiss | .hookPull .., .pullFault | .hookPull .., .overtravel
  | .hookPull .., .headFault => true
  | _, _ => false

/-- The head position. -/
def setHead (h : HeadPos) (s : State) : State := { s with bsq := { s.bsq with head := h } }

/-- The wire in hand is bonded or pulled: the cursor moves on, the retry count returns to 0. -/
def Bsq.advance (b : Bsq) : Bsq :=
  { b with cursor := b.cursor.map (fun c => { c with idx := c.idx + 1, again := false }), retry := 0 }

/-- The wire in hand is to be tried again (R96, R113). -/
def Bsq.retryWire (b : Bsq) : Bsq :=
  { b with cursor := b.cursor.map (fun c => { c with again := true }), retry := b.retry + 1 }

/-- The sampled flag of the strip of a work list entry, in the replica's record of its window. -/
def State.stripSampled (s : State) (e : WorkEntry) : Bool :=
  ((s.table.bind (·.win? e.win)).map fun x => x.id == e.strip && x.sampled).getD false

/-- A wire is traced (R95). -/
def State.traced (s : State) (e : WorkEntry) (i : Nat) : Bool :=
  match s.su.held with
  | none => false
  | some p => s.stripSampled e && p.tests.contains e.unit && ((p.wire? e.group i).map (·.witness)).getD false

/-- The DONE of a WIRE (R94, R95): hand-off of a traced wire, then the wire index and the retry count. -/
def wireDone (m : Meas) (s : State) : State :=
  match s.bsq.work, s.bsq.cursor with
  | e :: _, some c =>
    if e.mark = .drop then s
    else
      let s1 := if s.traced e c.idx then
          { s with rcu := s.rcu.handOff e.strip e.unit e.group c.idx s.indexNow m s.bsq.retry }
        else s
      { s1 with bsq := s1.bsq.advance }
  | _, _ => s

/-- NSOP, NSOL or NO_BALL in answer to a WIRE (R96): tried again, or the group fails. -/
def wireMissed (s : State) : State :=
  match s.bsq.work with
  | e :: _ =>
    if e.mark = .drop then s
    else if s.bsq.retry < s.retryLimit then { s with bsq := s.bsq.retryWire }
    else reportEnd (.done e.win e.unit e.group 1) s
  | [] => s

/-- The PULL_RESULT of a pull outcome (R114, R115): bonding station and class from the replica and the plan. -/
def State.pullNote (s : State) (e : WorkEntry) (g i force mode verdict : Nat) : Note :=
  let bonder := ((((s.table.bind (·.unit? e.win e.unit)).bind (·.groups[g]?)).bind (·.claimer))).getD 0xFF
  .pullResult ⟨e.win, e.strip, e.unit, g, i, bonder, (s.su.held.map (·.cls g)).getD 0, force, mode, verdict⟩

/-- A pull outcome is handed to the WSC and the cursor moves on (R112, R113). `res` gives force, mode and verdict by the
class minimum. -/
def pullOutcome (res : Nat → Nat × Nat × Nat) (s : State) : State :=
  match s.bsq.work, s.bsq.cursor with
  | e :: _, some c =>
    if e.mark = .drop then s
    else
      match (s.pullsLeft c.base)[c.idx]? with
      | none => s
      | some (g, i) =>
        let r := res ((s.su.held.map fun p => p.minOf (p.cls g)).getD 0)
        place .wsc (s.pullNote e g i r.1 r.2.1 r.2.2) { s with bsq := s.bsq.advance }
  | _, _ => s

/-- A HOOK_MISS (R113): tried again, or the wire is given up with NO_RESULT. -/
def hookMissed (s : State) : State :=
  match s.bsq.work with
  | e :: _ =>
    if e.mark = .drop then s
    else if s.bsq.retry < s.retryLimit then { s with bsq := s.bsq.retryWire }
    else pullOutcome (fun _ => (0, 0, Verdict.noResult)) s
  | [] => s

/-- The completion of a command that has ended. A kind R87 does not allow is handled as HEAD_FAULT (R89). -/
def answerCmd (cmd : HeadCmd) (c : Completion) (s : State) : State :=
  if !allowed cmd c then enterHalted s
  else
    match cmd, c with
    | .park, .done _ => if s.bsq.st = .halted then leaveHalt .parked s else setHead .parked s
    | .unpark, .done _ => setHead .atWork s
    | .unpark, .wireOut | .wire .., .wireOut | .rethread, .wireOut => enterSpoolOut s
    | .wire .., .done m => wireDone m (setHead .atWork s)
    | .wire .., .nsop | .wire .., .nsol => wireMissed (setHead .atWork s)
    | .wire .., .noBall => wireMissed (setHead .unknown s)
    | .rethread, .done _ => leaveHalt .atWork s
    | .hookPull .., .pulled force mode =>
      pullOutcome (fun minimum => (force, modeCode mode, verdictOf (modeCode mode) force minimum)) (setHead .atWork s)
    | .hookPull .., .hookMiss => hookMissed (setHead .atWork s)
    | _, _ => enterHalted s

/-- The claims that the completion has ended leave the work list, with no further command sent. -/
def endClaims (s : State) : State :=
  let s1 := drive { s with bsq := { s.bsq with enabled := false } }
  { s1 with bsq := { s1.bsq with enabled := s.bsq.enabled } }

/-- The outstanding command has ended with a completion; a held alert is acted on afterwards, in the new state (R88), in step 1
of a restart too (assumption 83). -/
def endCmd (o : Outstanding) (c : Completion) (s : State) : State :=
  let s1 := answerCmd o.cmd c (endStopped { s with bsq := { s.bsq with out := none } })
  match s1.bsq.alert with
  | none => s1
  | some a => actAlert a (endClaims { s1 with bsq := { s1.bsq with alert := none } })

/-- A completion with its tag (R89). -/
def headAnswer (tag : Byte) (c : Completion) (s : State) : State :=
  match s.bsq.out with
  | some o =>
    if tag = o.tag then endCmd o c s
    else endCmd o .headFault { s with bsq := { s.bsq with late := some o.tag } }
  | none =>
    if s.bsq.late = some tag then { s with bsq := { s.bsq with late := none } } else actAlert .headFault s

/-- The head timeout of the outstanding command runs out (R89). -/
def headExpired (s : State) : State :=
  match s.bsq.out with
  | some o => endCmd o .headFault { s with bsq := { s.bsq with late := some o.tag } }
  | none => s

/-! ## Claims handed over, closed, lost, stopped -/

/-- An applied own CLAIM handed to the BSQ (R92); with the takt EXPIRED, or in FINISHING or PAUSED, it is released at once
with its recorded progress (R74, R92, R101). Under a stop request it joins the list that the stop empties (assumption 68).
Entries marked DROP do not count against the 2 of R90: the list takes the claim behind them (assumption 84). -/
def handClaim (e : OwnClaim) (s : State) : State :=
  let w : WorkEntry := ⟨e.win, e.unit, e.group, e.strip, .none⟩
  if s.wsc.takt = .expired ∨ s.bsq.st = .finishing ∨ s.bsq.st = .paused then place .wsc (s.releaseNote w none) s
  else { s with bsq := { s.bsq with work := s.bsq.work ++ [w], st := if s.bsq.st = .idle then .running else s.bsq.st } }

/-- The affected claims of the work list are closed (R102, R103): in HALTED and SPOOL_OUT released at once; in RUNNING the
claim at the cursor takes the mark RELEASE and the others are released at once, one marked DROP without a report (R104, R105);
FINISHING already closes them. R74 and R75 have a RUNNING BSQ release every claim behind the wire in hand, R102 and R119 the
one not at the cursor at once: the model's choice is R102 (assumption 79). -/
def closeWork (f : WorkEntry → Bool) (s : State) : State :=
  if s.bsq.stopped then releaseWork f s
  else if s.bsq.st = .running then
    match s.bsq.work, s.bsq.cursor with
    | e :: r, some _ =>
      let s1 := if f e && e.mark == .none then
          { s with bsq := { s.bsq with work := { e with mark := .release } :: r } }
        else s
      let rest := r.filter fun x => f x && x.mark != .drop
      (rest.map fun x => s1.releaseNote x none).foldl (fun s n => place .wsc n s)
        { s1 with bsq := { s1.bsq with work := s1.bsq.work.take 1 ++ r.filter fun x => !f x } }
    | _, _ => releaseWork f s
  else s

/-- The claims of the station that a test selects are closed: at takt expiry all of them (R74), under a hold those on groups
of the class (R75); when each one is, assumption 79 says. -/
def closeClaims (f : Nat → Bool) (s : State) : State :=
  closeWork (fun e => f e.group) (closeQueued (fun e => f e.group) s)

/-- The entry of a claim lost in RESYNC (R104) is marked DROP when it is at the cursor and taken out at once otherwise, also
behind an entry of the same task that an earlier loss has marked DROP (assumption 84). In HALTED and SPOOL_OUT the entry at the
cursor leaves at once too. -/
def Bsq.lose (w u g : Nat) (b : Bsq) : Bsq :=
  let is := WorkEntry.isTask w u g
  let rest := fun (l : List WorkEntry) => l.filter fun e => !is e
  match b.work, b.cursor with
  | e :: r, some c =>
    if b.stopped then { b with work := rest b.work, cursor := if is e then none else some c }
    else { b with work := (if is e then { e with mark := .drop } else e) :: rest r }
  | _, _ => { b with work := rest b.work }

/-- A claim lost in RESYNC (R58, R104): the WSC drops it without a note, the BSQ ends its entry. -/
def loseClaim (w u g : Nat) (s : State) : State :=
  { dropClaims (OwnClaim.isTask w u g) s with bsq := s.bsq.lose w u g }

/-- The stop request (R105): every entry takes the mark DROP; in HALTED and SPOOL_OUT the entries leave at once. -/
def stopWork (s : State) : State :=
  let b := s.bsq
  let w := if b.stopped then [] else b.work.map fun e => { e with mark := .drop }
  { s with bsq := { b with work := w, cursor := if w.isEmpty then none else b.cursor,
                           stop := b.out.isSome || !w.isEmpty } }

/-- INDEX_START applied: an IDLE BSQ whose head is not parked sends PARK unless a command is outstanding (R107). -/
def indexPark (s : State) : State :=
  if s.bsq.st == .idle && s.bsq.head != .parked && s.bsq.out.isNone && s.headFree then sendHead .park s else s

/-! ## Keys and restart -/

/-- PAUSE (R101): taken in IDLE and RUNNING; the claims take the mark RELEASE. -/
def takePause (s : State) : State :=
  if s.bsq.st = .idle ∨ s.bsq.st = .running then
    let s1 := closeQueued (fun _ => true) s
    { s1 with bsq := { s1.bsq with st := .finishing
                                   work := s1.bsq.work.map fun e => if e.mark = .drop then e else { e with mark := .release } } }
  else s

/-- RESUME (R101). -/
def takeResume (s : State) : State :=
  if s.bsq.st = .paused then { s with bsq := { s.bsq with st := .idle } } else s

/-- CLEAR in HALTED, SPOOL in SPOOL_OUT (R99, R108): RETHREAD_CHECK, or PARK in the pull role; nothing while a clearing
command is outstanding. A key taken while no head command may be sent is lost (R90, assumption 73). -/
def takeClear (st : BState) (s : State) : State :=
  if s.bsq.st = st ∧ s.bsq.out = none ∧ s.headFree = true then
    sendHead (if s.pullRole then .park else .rethread) s
  else s

/-- The BSQ at the start of a restart (R106): the work list emptied; unless it is HALTED or SPOOL_OUT it is IDLE from here on,
before the DONE of its PARK too (assumption 80). The alert discarded is the one held at this moment (assumption 83). -/
def restartBsq (s : State) : State :=
  let b := s.bsq
  { s with bsq := { b with st := if b.stopped then b.st else .idle, work := [], cursor := none, retry := 0,
                           alert := none, stop := false, enabled := false, restPark := false } }

/-- The BSQ has come to rest in the restart sequence (R106). -/
def Bsq.atRest (b : Bsq) : Bool := b.out.isNone && (b.stopped || b.restPark)

/-- In the rest step of a restart the BSQ sends PARK once the command outstanding has ended, unless it is HALTED or
SPOOL_OUT (R106). -/
def restBsq (s : State) : State :=
  if s.su.run == .resting && s.bsq.out.isNone && !s.bsq.stopped && !s.bsq.restPark then
    sendHead .park { s with bsq := { s.bsq with restPark := true } }
  else s

/-! ## After every event -/

/-- A selection is due (R66): an own claim or a skip request removed, the BSQ become RUNNING or IDLE, the takt timer
started. -/
def selectionDue (old s : State) : Bool :=
  old.wsc.claims.any (fun e => !s.wsc.claims.any fun x => OwnClaim.isTask e.win e.unit e.group x) ||
  old.wsc.skips.any (fun k => !s.wsc.skips.any fun x => x.win == k.win && x.strip == k.strip && x.unit == k.unit) ||
  ((s.bsq.st == .running || s.bsq.st == .idle) && s.bsq.st != old.bsq.st) ||
  (s.wsc.takt == .running && old.wsc.takt != .running)

/-- After an event that began in state `old`: the sequencer moves, a selection runs when one is due (`always`: at the end of
a frame handling), and the sequencer moves on what it made. -/
def settle (always : Bool) (old s : State) : State :=
  let s1 := drive s
  let s2 := if always || selectionDue old s1 then select s1 else s1
  drive s2

end Sys2Proof.Machine
end

