-- ==== Sys2Proof/Machine/Track.lean ====
section
/-! DEFINITION. The Track and Magazine Unit (R124 to R139): clamp, beam, elevators, pushers, duties, and the in-ready and
out-ready flags (R131, R135). -/

namespace Sys2Proof.Machine

/-! ## Sensors -/

/-- The sensor levels as they stand; once the beam has been started for the index under way, the transfer record reads as the
drive's indication reads (R127). -/
def sense (lv : Levels) (s : State) : State :=
  { s with tmu := { s.tmu with levels := lv
                               transfer := if s.tmu.beamStarted then lv.transferMoved else s.tmu.transfer } }

/-! ## The clamp (R125, R126) -/

/-- A clamp state, an opening by R125; CLAMP_FAULT clears when the clamp leaves FAULT. -/
def setClamp (c : ClampSt) (s : State) : State :=
  let s1 := if s.tmu.clamp = .fault ∧ c ≠ .fault then clearAlarm .clampFault s else s
  { s1 with tmu := { s1.tmu with clamp := c, openTakeUp := false } }

/-- CLAMP_OPEN of the owned window (R125); with `takeUp` only while the window is not in the clamp-open set (R124). -/
def tellOpen (takeUp : Bool) (s : State) : State :=
  match s.ownWindow with
  | none => s
  | some w => if takeUp && ((s.table.map (·.clampOpen w)).getD false) then s else place .tmu (.clampOpen w) s

/-- The clamp is driven open from CLOSED, CLOSING or FAULT; one already OPEN is reported at once (R125). -/
def openClamp (s : State) : State :=
  match s.tmu.clamp with
  | .opened => tellOpen false s
  | .opening => s
  | _ => setClamp .opening s

/-- The clamp is driven closed from OPEN, OPENING or FAULT (R126). -/
def closeClamp (s : State) : State :=
  match s.tmu.clamp with
  | .closed | .closing => s
  | _ => setClamp .closing s

/-- The clamp at take-up (R124): by the phase and the sensors. A phase code that is not defined is not MOVING: the clamp is
driven closed (assumption 81). -/
def takeUpClamp (s : State) : State :=
  match s.ownWindow, s.table with
  | some _, some t =>
    if t.phase = .moving then
      if s.tmu.levels.clampOpen then tellOpen true (setClamp .opened s)
      else
        let s1 := setClamp .opening s
        { s1 with tmu := { s1.tmu with openTakeUp := true } }
    else setClamp (if s.tmu.levels.clampClosed then .closed else .closing) s
  | _, _ => s

/-- CLEAR on a clamp in FAULT (R126). Under a phase code that is not defined it is driven closed (assumption 81). -/
def clearClamp (s : State) : State :=
  match s.tmu.clamp, s.table with
  | .fault, some t => if s.tmu.duty then (if t.phase = .moving then openClamp s else closeClamp s) else s
  | _, _ => s

/-! ## The beam (R127) -/

/-- An INDEX_FAULT of the feed station; causes 1 CLAMP_WAIT, 2 BEAM_JAM, 3 BEAM_TIMEOUT, 4 MOVE_LOST (R83, R179). -/
def faultNote (cause : Nat) : Note := .indexFault cause 0xFF

/-- The clamp-open set has become complete: a HOME beam is started, another is reported as a jam (R127). -/
def startBeam (s : State) : State :=
  if s.tmu.feedDuty then
    if s.tmu.beam = .home then
      { s with tmu := { s.tmu with beam := .moving, transfer := false, beamStarted := true } }
    else place .tmu (faultNote 2) s
  else s

/-- A motion of the TMU ends with its note or its fault: the station is ACTIVE or RESYNC, and the duty of the motion has not
been given up, otherwise than by R35, since the motion began (R35, R124). -/
def State.reports (mute : Bool) (s : State) : Bool := s.working && !mute

/-- The note that a motion of the TMU ends with (R35, R124). -/
def motionNote (mute : Bool) (n : Note) (s : State) : State := if s.reports mute then place .tmu n s else s

/-- The beam stopped by a jam or its limit (R127). -/
def faultBeam (cause : Nat) (s : State) : State :=
  if s.tmu.beam = .moving then
    motionNote s.tmu.feedMute (faultNote cause) { s with tmu := { s.tmu with beam := .fault } }
  else s

/-- The INDEX_DONE with shift for the next index count (R127, R84). -/
def shiftNote (t : Table) : Note := .indexDone (t.index + 1).toNat 1

/-- INDEX_START applied: the transfer record becomes "not moved" and the clamp of the owned window opens (R79, R125, R127). -/
def indexOpens (s : State) : State :=
  let s1 := { s with tmu := { s.tmu with transfer := false, beamStarted := false } }
  if s1.tmu.duty && s1.ownWindow.isSome then openClamp s1 else s1

/-- INDEX_DONE applied: the clamp of the owned window closes (R126). -/
def indexCloses (s : State) : State := if s.tmu.duty && s.ownWindow.isSome then closeClamp s else s

/-! ## Elevators (R128, R129) -/

def Tmu.elev (t : Tmu) : MagName → Elev
  | .input => t.elInput | .good => t.elGood | .reject => t.elReject

def Tmu.setElev (m : MagName) (e : Elev) (t : Tmu) : Tmu :=
  match m with
  | .input => { t with elInput := e } | .good => { t with elGood := e } | .reject => { t with elReject := e }

/-- The sensors of an elevator. -/
def elevLevels (l : Levels) : MagName → ElevLevels
  | .input => l.input | .good => l.good | .reject => l.reject

/-- The duty an elevator belongs to. -/
def Tmu.onDuty (t : Tmu) : MagName → Bool
  | .input => t.feedDuty
  | _ => t.unloadDuty

/-- The motion of an elevator under way ends with no note (R124). -/
def Tmu.elevMute (t : Tmu) : MagName → Bool
  | .input => t.feedMute
  | _ => t.unloadMute

/-- Some elevator of the station is FAULT. -/
def Tmu.elevFault (t : Tmu) : Bool := t.elInput.st == .fault || t.elGood.st == .fault || t.elReject.st == .fault

/-- An elevator record replaced: ELEVATOR_FAULT is raised when it enters FAULT and clears when no elevator is FAULT. -/
def putElev (m : MagName) (e : Elev) (s : State) : State :=
  let was := s.tmu.elevFault
  let entered := e.st == .fault && (s.tmu.elev m).st != .fault
  let s1 := { s with tmu := s.tmu.setElev m e }
  if entered then raise .elevatorFault s1
  else if was && !s1.tmu.elevFault then clearAlarm .elevatorFault s1
  else s1

/-- The slot code an elevator seeks: FULL in the input magazine, EMPTY in the others (R129). -/
def soughtCode : MagName → Nat
  | .input => Slot.full
  | _ => Slot.empty

/-- One slot toward the target (R129). -/
def stepToward (i c : Nat) : Nat := if c < i then c + 1 else c - 1

/-- An elevator turned to a new target (R129). Between two slots it goes on where the way is the same, and turns round where
it is not, with the steps made to be made back; with no target it stands at its current slot (assumption 45). -/
def Elev.turn (i : Option Nat) (e : Elev) : Elev :=
  match i, e.cur, e.target with
  | none, _, _ => { e with st := .atSlot, target := none, waiting := false, steps := 0 }
  | some i, some c, some j =>
    if e.steps = 0 then { e with st := if c = i then .atSlot else .seeking, target := some i, waiting := false }
    else if c ≠ i ∧ stepToward i c = stepToward j c then { e with st := .seeking, target := some i, waiting := false }
    else { e with st := .seeking, cur := some (stepToward j c), target := some i, waiting := false, steps := e.pitch - e.steps }
  | some i, c, _ =>
    { e with st := if c = some i then .atSlot else .seeking, target := some i, waiting := false, steps := 0 }

/-- The lowest slot that the table shows as the elevator's target (R129). -/
def State.soughtSlot (s : State) (m : MagName) : Option Nat := (s.table.map (·.mag m)).bind (·.find (soughtCode m))

/-- The elevator chooses its target from the table (R129). -/
def chooseTarget (m : MagName) (s : State) : State := putElev m ((s.tmu.elev m).turn (s.soughtSlot m)) s

/-- The map a scan found, as slot codes. -/
def Elev.codes (e : Elev) : List Nat := e.map.map fun b => if b then Slot.full else Slot.empty

/-- An elevator behind its scan: on duty it seeks and waits for its MAGAZINE LOADED, off duty it stands (R128, R129). -/
def Elev.scanned (duty : Bool) (e : Elev) : Elev :=
  { e with st := if duty then .seeking else .atSlot, waiting := duty, target := none }

/-- The scan of the last slot has ended (R128): MAGAZINE LOADED, also when the duty was lost by R35 meanwhile (R124), or a
fault for a map not accepted; no note where the duty was given up otherwise. -/
def scanEnd (m : MagName) (s : State) : State :=
  let e := s.tmu.elev m
  let duty := s.tmu.onDuty m
  if duty || s.reports (s.tmu.elevMute m) then
    if m = .input ∨ (MagRec.mk 1 e.codes).filled = ((s.table.map fun t => (t.mag m).filled).getD []) then
      place .tmu (.magazine (MagName.code m) 1 e.codes) (putElev m (e.scanned duty) s)
    else putElev m { e with st := .fault } s
  else putElev m (e.scanned false) s

/-- A slot read by the scan (R128). -/
def scanSlot (m : MagName) (i : Nat) (s : State) : State :=
  let e := s.tmu.elev m
  let s1 := putElev m { e with st := .scanning, cur := some i, steps := 0,
                               map := e.map ++ [(elevLevels s.tmu.levels m).occupied] } s
  if e.slots ≤ i + 1 then scanEnd m s1 else s1

/-- The home sensor is found (R128): the scan begins at slot 0; off duty the elevator stands there. -/
def homeFound (m : MagName) (s : State) : State :=
  if s.tmu.onDuty m then scanSlot m 0 s
  else putElev m { s.tmu.elev m with st := .atSlot, cur := some 0, target := none, steps := 0 } s

/-- Homing begins with the slot count and pitch of the held plan (R128). -/
def startHoming (m : MagName) (s : State) : State :=
  let slots := (s.su.held.map (·.slots m)).getD 0
  let s1 := putElev m ⟨.homing, none, none, [], 0, false, slots, (s.su.held.map (·.pitch)).getD 0⟩ s
  if (elevLevels s.tmu.levels m).home then homeFound m s1 else s1

/-- An elevator at take-up (R124). -/
def takeUpElev (m : MagName) (s : State) : State :=
  if (elevLevels s.tmu.levels m).present then startHoming m s
  else
    let s1 := putElev m .reset s
    if (s.table.map fun (t : Table) => (t.mag m).present).getD false then place .tmu (.magazine (MagName.code m) 0 []) s1 else s1

/-- One step interval passes (R128, R129). -/
def stepElev (m : MagName) (s : State) : State :=
  let e := s.tmu.elev m
  match e.st with
  | .homing =>
    let s1 := putElev m { e with steps := e.steps + 1 } s
    if (elevLevels s.tmu.levels m).home then homeFound m s1
    else if (e.slots + 2) * e.pitch ≤ e.steps + 1 then putElev m { e with steps := e.steps + 1, st := .fault } s
    else s1
  | .scanning =>
    if e.steps + 1 < e.pitch then putElev m { e with steps := e.steps + 1 } s
    else scanSlot m (e.cur.getD 0 + 1) s
  | .seeking =>
    match e.waiting, e.target, e.cur with
    | false, some i, some c =>
      if e.steps + 1 < e.pitch then putElev m { e with steps := e.steps + 1 } s
      else
        let c1 := stepToward i c
        putElev m { e with cur := some c1, steps := 0, st := if c1 = i then .atSlot else .seeking } s
    | _, _, _ => s
  | _ => s

/-! ## Pushers (R132, R136, R138) -/

def Tmu.push (t : Tmu) : PusherName → Push
  | .input => t.pushIn | .output => t.pushOut

def Tmu.setPush (p : PusherName) (x : Push) (t : Tmu) : Tmu :=
  match p with
  | .input => { t with pushIn := x } | .output => { t with pushOut := x }

/-- The push under way ends with no note (R124). -/
def Tmu.pushMute (t : Tmu) : PusherName → Bool
  | .input => t.feedMute | .output => t.unloadMute

def putPush (p : PusherName) (x : Push) (s : State) : State := { s with tmu := s.tmu.setPush p x }

/-- The pusher becomes FAULT with PUSH_FAULT raised, its record kept; where the push ends with no note it is IDLE with its
record kept (R124). -/
def faultPush (p : PusherName) (s : State) : State :=
  if s.reports (s.tmu.pushMute p) then raise .pushFault (putPush p { s.tmu.push p with st := .fault } s)
  else putPush p { s.tmu.push p with st := .idle } s

/-- A pending push record held at take-up (R124). -/
def takeUpPush (p : PusherName) (s : State) : State :=
  if (s.tmu.push p).pending.isSome then raise .pushFault (putPush p { s.tmu.push p with st := .fault } s) else s

/-- The elevator stands at a slot the table shows with a code. -/
def State.standsAt (s : State) (t : Table) (m : MagName) (code : Nat) : Option Nat :=
  let e := s.tmu.elev m
  if e.st = .atSlot then e.cur.filter fun i => (t.mag m).slotIs i code else none

/-- The magazine the judgement of R134 sends a strip to. -/
def magOfStrip (x : Strip) : MagName := if goodStrip x then .good else .reject

/-- The pending push record of a push that may start (R132, R136); none while a request of the TMU waits (R19). -/
def State.pushReady (s : State) : PusherName → Option PendingPush
  | .input =>
    match s.table with
    | none => none
    | some t =>
      if s.actsFeed && s.tmu.feedDuty && t.phase == .opened && t.railIn.isNone && s.tmu.beam == .home &&
          s.tmu.pushIn.st == .idle && !s.lnk.waits .tmu then
        (s.standsAt t .input Slot.full).map fun i => ⟨i, .input, 0⟩
      else none
  | .output =>
    match s.table with
    | none => none
    | some t =>
      match t.railOut with
      | none => none
      | some x =>
        if s.actsUnload && s.tmu.unloadDuty && t.phase != .moving && s.tmu.pushOut.st == .idle &&
            !s.lnk.waits .tmu then
          (s.standsAt t (magOfStrip x) Slot.empty).map fun i => ⟨i, magOfStrip x, x.id⟩
        else none

/-- The missed-test count rises when the UNLOAD of a strip with a missed test is placed (R134). -/
def countMissed (id : Nat) (s : State) : State :=
  match (s.table.bind (·.railOut)).filter (fun x => x.id == id && missedTest x) with
  | none => s
  | some _ => { s with tmu := { s.tmu with missed := satAdd 65535 s.tmu.missed 1 } }

/-- A pusher reports with a note (R132, R136, R138). -/
def report (p : PusherName) (n : Note) (s : State) : State :=
  place .tmu n (putPush p { s.tmu.push p with st := .reporting n } s)

/-- The verdict code of an UNLOAD for a magazine (R137). -/
def verdictOfMag : MagName → Nat
  | .reject => 1
  | _ => 0

/-- The note of a push that is done (R132, R136). -/
def pushNote (t : Table) (p : PusherName) (r : PendingPush) : Note :=
  match p with
  | .input => .load r.slot t.nextId
  | .output => .unload r.strip (verdictOfMag r.mag) r.slot

/-- A push that is done: its note is placed and the pusher is REPORTING; where the push ends with no note it is IDLE with its
record kept (R124). -/
def finishPush (p : PusherName) (s : State) : State :=
  match s.table, (s.tmu.push p).pending with
  | some t, some r =>
    if s.reports (s.tmu.pushMute p) then
      report p (pushNote t p r) (if p = .output then countMissed r.strip s else s)
    else putPush p { s.tmu.push p with st := .idle } s
  | _, _ => putPush p { s.tmu.push p with st := .idle } s

/-- No pusher of the station is FAULT. -/
def Tmu.pushFine (t : Tmu) : Bool := t.pushIn.st != .fault && t.pushOut.st != .fault

/-- The note a pusher reports with has been applied or refused (R132, R136, R138). -/
def pushAnswered (applied : Bool) (n : Note) (p : PusherName) (s : State) : State :=
  if (s.tmu.push p).st = .reporting n then
    if applied then
      let s1 := putPush p ⟨.idle, none⟩ s
      if s1.tmu.pushFine then clearAlarm .pushFault s1 else s1
    else raise .pushFault (putPush p { s.tmu.push p with st := .fault } s)
  else s

/-- The faulted pusher a SEATED or REMOVED key acts on, the input pusher first (R138), also on a station that is not both feed
and unload at the moment (assumption 85). -/
def Tmu.faulted (t : Tmu) : Option PusherName :=
  if t.pushIn.st = .fault then some .input else if t.pushOut.st = .fault then some .output else none

/-- SEATED (R138). After a lost feed or unload duty no LOAD or UNLOAD is sent (R35). Every UNLOAD placed counts a missed test
(R134, assumption 58). The verdict is that of the strip on OUT, with OUT empty that of the record's magazine (assumption 69).
R138 names no station state: outside ACTIVE and RESYNC the key is taken without effect (assumption 20). With both pushers in
FAULT it acts on the input pusher, and so on none when the feed duty is lost (assumption 85). -/
def takeSeated (s : State) : State :=
  match s.table, s.tmu.faulted with
  | some t, some p =>
    match (s.tmu.push p).pending with
    | none => s
    | some r =>
      if s.working && (if p = .input then s.tmu.feedDuty else s.tmu.unloadDuty) then
        match p with
        | .input => report .input (.load r.slot t.nextId) s
        | .output => report .output (.unload r.strip ((t.railOut.map verdictCode).getD (verdictOfMag r.mag)) r.slot)
            (countMissed r.strip s)
      else s
  | _, _ => s

/-- REMOVED (R138, R139): the faulted push is written off, or the strip on a rail of the station's duties. R138 names no
station state: on a faulted pusher outside ACTIVE and RESYNC the key is taken without effect (assumption 20). -/
def takeRemoved (s : State) : State :=
  match s.table with
  | none => s
  | some t =>
    match s.tmu.faulted with
    | some p =>
      match (s.tmu.push p).pending with
      | none => s
      | some r =>
        if s.working then
          match p with
          | .input => report .input (.writeOff t.nextId 0 r.slot) s
          | .output => report .output (.writeOff r.strip 2 0xFF) s
        else s
    | none =>
      if s.actsUnload && t.railOut.isSome && s.tmu.pushOut.st == .idle then
        place .tmu (.writeOff ((t.railOut.map (·.id)).getD 0) 2 0xFF) s
      else if s.actsFeed && t.railIn.isSome && s.tmu.pushIn.st == .idle then
        place .tmu (.writeOff ((t.railIn.map (·.id)).getD 0) 1 0xFF) s
      else s

/-! ## Duties (R35, R124) -/

/-- The feed duty taken up. -/
def takeUpFeed (s : State) : State :=
  let s1 := { s with tmu := { s.tmu with feedDuty := true, feedMute := false, beam := if s.tmu.levels.beamHome then .home else .fault } }
  takeUpPush .input (takeUpElev .input s1)

/-- The unload duty taken up. -/
def takeUpUnload (s : State) : State :=
  let s1 := { s with tmu := { s.tmu with unloadDuty := true, unloadMute := false } }
  takeUpPush .output (takeUpElev .reject (takeUpElev .good s1))

/-- The TMU takes up its duties when the station becomes ACTIVE (R34, R124). -/
def takeUp (s : State) : State :=
  let s1 := takeUpClamp { s with tmu := { s.tmu with duty := true } }
  let s2 := if s1.actsFeed then takeUpFeed s1 else s1
  if s2.actsUnload then takeUpUnload s2 else s2

/-- An elevator whose duty is given up and that only waits stands where it is; one in motion runs on. -/
def Elev.release (e : Elev) : Elev :=
  if e.st = .seeking ∧ e.waiting = true then { e with st := .atSlot, waiting := false, target := none } else e

/-- The feed duty given up. -/
def Tmu.giveUpFeed (t : Tmu) : Tmu := { t with feedDuty := false, elInput := t.elInput.release }

/-- The unload duty given up. -/
def Tmu.giveUpUnload (t : Tmu) : Tmu :=
  { t with unloadDuty := false, elGood := t.elGood.release, elReject := t.elReject.release }

/-- Every duty given up: on leaving ACTIVE and RESYNC, and at restart. The motions under way end with no note (R124). -/
def giveUp (s : State) : State :=
  { s with tmu := { s.tmu.giveUpFeed.giveUpUnload with duty := false, feedMute := true, unloadMute := true } }

/-- The elevator is in motion or reads its slots. -/
def Elev.busy (e : Elev) : Bool := e.st == .homing || e.st == .scanning || e.st == .seeking

/-- No motion of the TMU is under way (R38). -/
def Tmu.atRest (t : Tmu) : Bool :=
  t.clamp != .opening && t.clamp != .closing && t.beam != .moving && t.pushIn.st != .pushing && t.pushOut.st != .pushing &&
  !t.elInput.busy && !t.elGood.busy && !t.elReject.busy

/-- A pusher after a restart: idle, a push under way running to its end, its record kept (R38). -/
def Push.restart (x : Push) : Push := if x.st = .pushing then x else { x with st := .idle }

/-- An elevator that a restart has brought to rest is idle (R38): one in FAULT leaves it and stands with no target
(assumption 82). -/
def Elev.rest (e : Elev) : Elev := if e.st = .fault then e.turn none else e

/-- An elevator brought to rest. -/
def restElev (m : MagName) (s : State) : State := putElev m (s.tmu.elev m).rest s

/-- The elevators brought to rest (R38): none is FAULT, and ELEVATOR_FAULT ends where one was (R128, assumption 82). -/
def restElevs (s : State) : State := restElev .reject (restElev .good (restElev .input s))

/-- The TMU at the start of a restart (R38). A clamp in FAULT keeps its record, and its alarm, gone with the alarm list, is not
raised again before the duties are taken up (assumption 21); no elevator stays FAULT (assumption 82). -/
def restartTmu (s : State) : State :=
  let s1 := restElevs (giveUp s)
  { s1 with tmu := { s1.tmu with pushIn := s1.tmu.pushIn.restart, pushOut := s1.tmu.pushOut.restart, missed := 0 } }

/-! ## In-ready and out-ready (R131, R135) -/

/-- The input magazine is absent or holds no FULL slot. -/
def Table.inputDry (t : Table) : Bool := (t.magInput.find Slot.full).isNone

/-- The in-ready flag (R131). -/
def State.inReady (s : State) : Bool :=
  match s.table with
  | none => false
  | some t =>
    let e := s.tmu.elInput.st
    s.actsFeed && s.tmu.beam == .home &&
    (t.railIn.isSome ||
      (s.tmu.pushIn.st == .idle && (e == .noMagazine || e == .atSlot || e == .seeking) && t.inputDry))

/-- The out-ready flag (R135). -/
def State.outReady (s : State) : Bool :=
  match s.table with
  | none => false
  | some t =>
    let good := (s.standsAt t .good Slot.empty).isSome
    let reject := (s.standsAt t .reject Slot.empty).isSome
    let lastStrip := s.su.held.bind fun p => t.win? p.last
    let suits := fun (m : MagName) => match lastStrip with
      | none => true
      | some x => magOfStrip x == m
    s.actsUnload && t.railOut.isNone && s.tmu.pushOut.st == .idle &&
    ((good && reject) || (good && suits .good) || (reject && suits .reject))

/-- The condition of MAG_IN_EMPTY (R131): once the elevator does not home or scan, until a FULL slot shows (assumption 35). -/
def State.magInNow (s : State) : Bool :=
  match s.table with
  | none => false
  | some t =>
    s.actsFeed && t.inputDry && (s.ocu.magIn || (s.tmu.elInput.st != .homing && s.tmu.elInput.st != .scanning))

/-- A present magazine without an EMPTY slot. -/
def MagRec.isFull (m : MagRec) : Bool := m.present && (m.find Slot.empty).isNone

/-- The condition of MAG_OUT_FULL (R135): a full magazine that is removed is no present one, and the condition ends with its
removal (assumption 75). -/
def State.magOutNow (s : State) : Bool :=
  match s.table with
  | none => false
  | some t => s.actsUnload && (t.magGood.isFull || t.magReject.isFull)

/-- MAG_IN_EMPTY and MAG_OUT_FULL are judged again (R131, R135). -/
def judgeMags (s : State) : State :=
  edgeAlarm .magOutFull s.ocu.magOut s.magOutNow
    (edgeAlarm .magInEmpty s.ocu.magIn s.magInNow { s with ocu := { s.ocu with magIn := s.magInNow, magOut := s.magOutNow } })

end Sys2Proof.Machine
end

