-- ==== Sys2Proof/Machine/CellTable.lean ====
section
/-! DEFINITION. The Cell Table Unit (R39, R47 to R61): the application of notes and what the blocks are told of it, the
copying of sections, RESYNC, the digest comparison and the absence effect. -/

namespace Sys2Proof.Machine

/-! ## What the table shows the blocks -/

/-- The classes on which a table shows a hold of this station. -/
def State.heldClasses (s : State) : List Nat :=
  match s.table with
  | none => []
  | some t => (List.range 4).filter (t.hold s.stn)

/-- The table is in phase FAULT. -/
def State.phaseFault (s : State) : Bool := (s.table.map (·.phase == .fault)).getD false

/-- The clamp wait ends when the clamp-open set becomes complete or the phase leaves MOVING (R80). -/
def settleClampWait (s : State) : State :=
  let goes := match s.table, s.su.held with
    | some t, some p => t.phase == .moving && !t.clampsOpen p
    | _, _ => false
  { s with wsc := { s.wsc with clampWait := s.wsc.clampWait && goes } }

/-- The claims of this station on groups of a class are closed (R75). -/
def closeClass (c : Nat) (s : State) : State :=
  match s.su.held with
  | none => s
  | some p => closeClaims (fun g => g != 4 && p.cls g == c) s

/-- QUALITY_HOLD (R120): raised for a failing result of this station or a hold newly on, cleared when a table held shows
none. One raised for a result whose hold write a copier dropped (R53) stays when the replica, which showed none before, still
shows none: the model's choice (assumption 86). -/
def judgeHolds (failing : Bool) (old s : State) : State :=
  let fresh := s.heldClasses.filter fun c => !old.heldClasses.contains c
  if failing || !fresh.isEmpty then raise .qualityHold s
  else if s.table.isSome && s.heldClasses.isEmpty && (old.table.isNone || !old.heldClasses.isEmpty) then
    clearAlarm .qualityHold s
  else s

/-- After a change of the table as the blocks see it, begun in state `old`: INDEX_JAM (R83), QUALITY_HOLD (R120), the claims
on classes newly held (R75, R119), the clamp wait. -/
def reView (failing : Bool) (old s : State) : State :=
  let fresh := s.heldClasses.filter fun c => !old.heldClasses.contains c
  let s1 := judgeHolds failing old (edgeAlarm .indexJam old.phaseFault s.phaseFault s)
  settleClampWait (fresh.foldl (fun s c => closeClass c s) s1)

/-- A station that acts as feed finds the phase MOVING with no beam move under way and no clamp wait running: INDEX_FAULT
with cause MOVE_LOST (R84). Asked when the station begins acting as feed. -/
def moveLost (s : State) : State :=
  if s.actsFeed && ((s.table.map (·.phase == .moving)).getD false) && s.tmu.beam != .moving && !s.wsc.clampWait then
    place .wsc (faultNote 4) s
  else s

/-! ## What an applied or refused note tells the blocks (R50, R63, R71, R79 to R83, R119) -/

/-- This station's own CLAIM applied: the entry becomes HELD and is handed to the BSQ (R63). -/
def claimApplied (w u g : Nat) (s : State) : State :=
  match s.wsc.claims.find? fun e => !e.held && e.isTask w u g with
  | none => s
  | some e =>
    handClaim e { s with wsc := { s.wsc with
      claims := mapFirst (fun e => !e.held && e.isTask w u g) (fun e => { e with held := true }) s.wsc.claims } }

/-- INDEX_START applied (R71, R73, R79, R80, R107). -/
def indexStarted (s : State) : State :=
  let s1 := dropSkips { s with wsc := { s.wsc with takt := .stopped, clampWait := s.actsFeed } }
  indexPark (indexOpens s1)

/-- INDEX_DONE applied (R73, R81, R82, R110, R126). -/
def indexEnded (shift : Bool) (s : State) : State :=
  let s1 := if s.working then startTakt s else s
  let s2 := if shift then { s1 with wsc := { s1.wsc with pulls := [], untestable := [] } } else s1
  indexCloses s2

/-- The target of a SEEKING elevator on duty is the lowest slot the table shows as it now stands (R129). -/
def retarget (m : MagName) (s : State) : State :=
  if s.tmu.onDuty m && (s.tmu.elev m).st == .seeking && !(s.tmu.elev m).waiting then chooseTarget m s else s

/-- An elevator AT_SLOT on duty seeks again after a change of its map, and a SEEKING one takes its target anew (R129). -/
def reseek (m : MagName) (s : State) : State :=
  if s.tmu.onDuty m && (s.tmu.elev m).st == .atSlot then chooseTarget m s else retarget m s

/-- The own MAGAZINE LOADED has been applied or refused: the elevator chooses its target (R129). -/
def loadedAnswered (m : Nat) (ev : Nat) (s : State) : State :=
  match MagName.ofCode m with
  | none => s
  | some m => if ev = 1 ∧ (s.tmu.elev m).waiting = true then chooseTarget m s else s

/-- The pushers are told of their own note (R132, R136, R138). -/
def pushersAnswered (applied : Bool) (n : Note) (s : State) : State :=
  pushAnswered applied n .output (pushAnswered applied n .input s)

/-- An applied PULL_RESULT (R119, R144). -/
def pullApplied (p : Plan) (own : Bool) (sender index : Nat) (n : PullNote) (s : State) : State :=
  if n.group = 4 then
    if own then endUntestable n s else s
  else
    let s1 := if own then { s with wsc := s.wsc.remember p n } else s
    if n.bonder = s.stn then { s1 with rcu := s1.rcu.joinPull n sender index } else s1

/-- The RCU is told of the id of a strip unloaded or written off, one written off from an input slot too (R139, R145). -/
def stripGone (id : Nat) (s : State) : State := { s with rcu := s.rcu.stripLeft id }

/-- The blocks are told of an applied note; `t` is the table before it, `t'` after it. A clamp-open set starts the beam when the
note that completes it is applied, not when a copied section 0 shows it complete (R80, R127, assumption 51). -/
def tellApplied (p : Plan) (own : Bool) (sender : Nat) (t t' : Table) (n : Note) (s : State) : State :=
  match n with
  | .claim w u g => if own then claimApplied w u g s else s
  | .done w u g _ | .release w u g _ => if own then dropClaims (OwnClaim.isTask w u g) s else s
  | .skip w u => if own then skipAnswered true w u s else s
  | .indexStart => indexStarted s
  | .indexDone _ sh => indexEnded (sh == 1) s
  | .clampOpen _ => if t'.clampsOpen p && !t.clampsOpen p then startBeam s else s
  | .pullResult r => pullApplied p own sender t'.index.toNat r s
  | .load .. => reseek .input (if own then pushersAnswered true n s else s)
  | .unload id .. => reseek .good (reseek .reject (stripGone id (if own then pushersAnswered true n s else s)))
  | .magazine m ev _ =>
    let s1 := if own then loadedAnswered m ev s else s
    match MagName.ofCode m with
    | some m => reseek m s1
    | none => s1
  | .writeOff id .. => reseek .input (stripGone id (if own then pushersAnswered true n s else s))
  | _ => s

/-- The blocks are told of their own note refused (R63, R71, R117, R129, R132). -/
def tellRefused (n : Note) (s : State) : State :=
  match n with
  | .claim w u g => dropClaims (fun e => !e.held && e.isTask w u g) s
  | .done w u g _ | .release w u g _ => dropClaims (OwnClaim.isTask w u g) s
  | .skip w u => skipAnswered false w u s
  | .pullResult r => endUntestable r s
  | .load .. | .unload .. | .writeOff .. => pushersAnswered false n s
  | .magazine m ev _ => loadedAnswered m ev s
  | _ => s

/-- This station's own CLAIM not applied by the copier rules: its entry is removed (R63). An untestable PULL_RESULT so left is
queued no more, and its entry leaves the untestable list (R110). Of other notes the producer learns nothing (assumption 42). -/
def tellUnread (n : Note) (s : State) : State :=
  match n with
  | .claim w u g => dropClaims (fun e => !e.held && e.isTask w u g) s
  | .pullResult r => endUntestable r s
  | _ => s

/-! ## Applying notes (R49, R50, R53, R54) -/

/-- The table is replaced. -/
def putTable (t : Table) (s : State) : State := { s with ctu := { s.ctu with rep := some t } }

/-- A failing PULL_RESULT naming a station (R120). -/
def Note.failsStation (stn : Nat) : Note → Bool
  | .pullResult n => n.group != 4 && n.failing && n.bonder == stn
  | _ => false

/-- A note whose conditions hold takes effect, and the blocks are told. -/
def noteApplied (p : Plan) (c : NoteCtx) (t t' : Table) (n : Note) (s : State) : State :=
  let own := c.sender == s.stn
  reView (n.failsStation s.stn) s (tellApplied p own c.sender t t' n (putTable t' s))

/-- A refused note: the refused-note count rises (R50). -/
def noteRefused (c : NoteCtx) (n : Note) (s : State) : State :=
  let s1 := { s with ctu := { s.ctu with refused := satAdd 65535 s.ctu.refused 1 } }
  if c.sender = s.stn then tellRefused n s1 else s1

/-- A section is copied; a number past the last names no section. -/
def Ctu.has (c : Ctu) (n : Nat) : Bool := c.copied.getD n true

/-- The part of section 0 of another table. -/
def Table.withSection0 (o t : Table) : Table :=
  { t with index := o.index, phase := o.phase, clampSet := o.clampSet, holds := o.holds, loaded := o.loaded,
           good := o.good, reject := o.reject, written := o.written }

/-- The copy marks after an INDEX_DONE with shift (R54). -/
def shiftMarks (p : Plan) (c : List Bool) : List Bool :=
  (List.range Config.sections).map fun n =>
    if n = 0 ∨ n = 13 ∨ fixedSection p n = true ∨ n = 1 ∨ n = 2 then true
    else
      let k := (n - 1) / 2 - 1
      c.getD (2 * k + 1) false && c.getD (2 * k + 2) false

/-- The copy marks with the sections a note writes turned to "not copied", the fixed ones apart (R53). -/
def dropMarks (p : Plan) (ns : List Nat) (c : List Bool) : List Bool :=
  c.zipIdx.map fun x => x.1 && (fixedSection p x.2 || !ns.contains x.2)

/-- A note in a copier (R53, R54). One with an undefined code every CTU refuses, whatever sections are copied (R179,
assumption 76). -/
def copierNote (p : Plan) (c : NoteCtx) (t : Table) (n : Note) (s : State) : State :=
  if !n.codesDefined then noteRefused c n s
  else if (Note.reads p n).all s.ctu.has then
    match judge p c t n with
    | none => noteRefused c n s
    | some t' =>
      let t'' := if s.ctu.has 0 then t' else Table.withSection0 t t'
      let marks := match n with
        | .indexDone _ sh => if sh = 1 then shiftMarks p s.ctu.copied else s.ctu.copied
        | _ => s.ctu.copied
      noteApplied p c t t'' n { s with ctu := { s.ctu with copied := marks } }
  else
    let s1 := { s with ctu := { s.ctu with copied := dropMarks p n.writes s.ctu.copied } }
    if c.sender = s.stn then tellUnread n s1 else s1

/-- The station gathers its first table (R33): JOINING, seated, holding the plan. -/
def State.gathering (s : State) : Bool := s.lnk.st == .joining && s.seat.isSome && s.su.joinWatch.isSome

/-- The station copies sections (section 3.4). -/
def State.copier (s : State) : Bool := s.lnk.st == .resync || s.gathering

/-- A frame whose table-changing notes go to application (R49). -/
def notesApply (f : Frame) (p : Plan) : Bool := f.planId == p.id && (f.state == .active || f.state == .resync)

/-- One table-changing note handed to the CTU (R49, R50, R53). -/
def handNote (f : Frame) (n : Note) (s : State) : State :=
  match s.su.held, s.ctu.rep with
  | some p, some t =>
    let c : NoteCtx := ⟨f.sender, f.state, f.flags⟩
    if !notesApply f p || n.cls != .table then s
    else if s.lnk.st = .active then
      match judge p c t n with
      | none => noteRefused c n s
      | some t' => noteApplied p c t t' n s
    else if s.copier then copierNote p c t n s
    else s
  | _, _ => s

/-! ## Copying and RESYNC (R52, R55 to R59) -/

/-- The copy map at the start of a copy: the fixed sections only (section 3.4). -/
def fixedMarks (p : Plan) : List Bool := (List.range Config.sections).map (fixedSection p)

/-- A table sender's frame (R33, section 3.4). -/
def isTableSender (p : Plan) (f : Frame) : Bool := f.state == .active && !f.flags.noTable && f.planId == p.id

/-- The RESYNC entry (R57): the vote is no (R58, R76), and the vote record of a station that leaves ACTIVE is cleared
(R77). -/
def enterResync (p : Plan) (s : State) : State :=
  raise .resync { s with lnk := { s.lnk with st := .resync }
                         ctu := { s.ctu with copied := fixedMarks p, watch := some 0 }
                         wsc := { s.wsc with voteRec := none, vote := false } }

/-- The RCU looks at its traces when the table becomes complete (R145). -/
def tableCompleted (s : State) : State :=
  match s.table with
  | none => s
  | some t => { s with rcu := s.rcu.tableComplete t }

/-- The return from RESYNC to ACTIVE (R59, R73, R84, R145). -/
def leaveResync (s : State) : State :=
  let s1 := clearAlarm .resync { s with lnk := { s.lnk with st := .active }, ctu := { s.ctu with watch := none } }
  let s2 := if ((s1.table.map (·.phase == .opened)).getD false) && s1.wsc.takt == .stopped then startTakt s1 else s1
  moveLost (tableCompleted s2)

/-- The tasks a half of a window shows CLAIMED by a station, with the progress a RELEASE carries: units from `lo` on, up to
24 of them. -/
def claimsIn (t : Table) (stn w lo : Nat) : List (Nat × Nat × Nat) :=
  match t.win? w with
  | none => []
  | some x =>
    ((x.units.drop lo).take 24).zipIdx.flatMap fun y =>
      (y.1.groups.zipIdx.filterMap fun z => if z.1.claimedBy stn then some (lo + y.2, z.2, z.1.progress) else none) ++
      (if y.1.testBy stn then [(lo + y.2, 4, 0)] else [])

/-- The check of the station's claims against a half of its own window taken in RESYNC (R58). Several RELEASE notes go by
unit, the groups of a unit before its test (assumption 66). -/
def checkClaims (w lo : Nat) (s : State) : State :=
  match s.ctu.rep with
  | none => s
  | some t =>
    let shown := claimsIn t s.stn w lo
    let inHalf := fun (u : Nat) => decide (lo ≤ u) && decide (u < lo + 24)
    let mine := s.wsc.claims.filter fun e => e.held && e.win == w && inHalf e.unit
    let lost := mine.filter fun e => !shown.any fun x => x.1 == e.unit && x.2.1 == e.group
    let extra := shown.filter fun x => !mine.any fun e => x.1 == e.unit && x.2.1 == e.group
    let s1 := lost.foldl (fun s e => loseClaim e.win e.unit e.group s) s
    extra.foldl (fun s x => place .wsc (.release w x.1 x.2.1 x.2.2) s) s1

/-- The targets of the elevators follow a section 13 taken by the copy (R129). -/
def retargetCopied (n : Nat) (s : State) : State :=
  if n = 13 then retarget .reject (retarget .good (retarget .input s)) else s

/-- A section with its body is taken by a copier (R52, R58, R59). The blocks see the table it gives before a completed copy
takes the station out of RESYNC (R80, R84). -/
def takeSection (p : Plan) (n : Nat) (body : List Byte) (s : State) : State :=
  match s.ctu.rep with
  | none => s
  | some t =>
    if s.ctu.has n then s
    else
      match takeBody p n body t with
      | none => s
      | some t1 =>
        let t2 := if s.lnk.st = .joining then t1.absent p (· == n) s.stn else t1
        let s1 := { s with ctu := { s.ctu with rep := some t2, copied := s.ctu.copied.set n true } }
        let s2 := match s.seat with
          | some seat =>
            if s.lnk.st = .resync ∧ (n = 2 * seat.win + 1 ∨ n = 2 * seat.win + 2) then
              checkClaims seat.win (if n = 2 * seat.win + 1 then 0 else 24) s1
            else s1
          | none => s1
        let s3 := retargetCopied n (reView false s s2)
        if !s1.ctu.complete then s3 else if s.lnk.st = .resync then leaveResync s3 else tableCompleted s3

/-- The header of a readable frame, with its section, handed to the CTU (R7, R52, R56): the digest comparison of an ACTIVE
station, then the section for a copier. -/
def handHeader (f : Frame) (s : State) : State :=
  match s.su.held with
  | none => s
  | some p =>
    if isTableSender p f && f.sender != s.stn then
      let differs := (s.ctu.rep.map fun t => t.digest != f.digest).getD false
      let s1 := if s.lnk.st == .active && differs && decide (f.sender < s.stn) then enterResync p s else s
      match f.sec with
      | some (n, body) => if s1.copier then takeSection p n body s1 else s1
      | none => s1
    else s

/-- The unreadable-frame signal (R8, R55, R57). A complete table that a JOINING copier held is held no longer (R33, R83). -/
def unreadableHeard (s : State) : State :=
  match s.su.held with
  | none => s
  | some p =>
    if s.lnk.st = .active then enterResync p s
    else if s.copier then reView false s { s with ctu := { s.ctu with copied := fixedMarks p } }
    else s

/-! ## Absence (R60, R61) -/

/-- The absence effect for a station number (R60): in an ACTIVE station on every half of W0 to W(last), in a copier on the
copied ones. The own claims that it ends are dropped and the BSQ stops (R61). -/
def absence (k : Nat) (s : State) : State :=
  match s.su.held, s.ctu.rep with
  | some p, some t =>
    if s.lnk.st == .active || s.copier then
      let s1 := putTable (t.absent p (fun n => s.lnk.st == .active || s.ctu.has n) k) s
      if k = s.stn then stopWork (dropClaims (·.held) s1) else s1
    else s
  | _, _ => s

/-- The RESYNC watch has expired (R59): ACTIVE with the replica as it stands, and the absence effect for every station the
roster shows not present. -/
def resyncExpired (s : State) : State :=
  let s1 := leaveResync s
  let gone := (List.range 8).filter fun k => !(s1.lnk.entry k).present
  reView false s (gone.foldl (fun s k => absence k s) s1)

/-! ## Discard (R39) -/

/-- The table is discarded: copy map and RESYNC watch return to their first values, the refused-note count stays. -/
def discardTable (s : State) : State :=
  let c : Ctu := { Ctu.reset with refused := s.ctu.refused }
  reView false s { s with ctu := c }

end Sys2Proof.Machine
end

