-- ==== Sys2Proof/Machine/StartUp.lean ====
section
/-! DEFINITION. The start-up logic (R24 to R38): plan staging, seating, gathering a table, joining, conflicts, the entry to
LISTEN and the restart. -/

namespace Sys2Proof.Machine

/-! ## Gathering and joining (R32 to R34) -/

/-- A seated JOINING station with a held plan begins to gather a table, the join watch at 0 (R33). The positions not yet
copied hold nothing. -/
def beginGather (s : State) : State :=
  match s.seating with
  | none => s
  | some (p, _) =>
    { s with su := { s.su with joinWatch := some 0 }
             ctu := { s.ctu with rep := some freshTable, copied := fixedMarks p } }

/-- A fresh start (R33): any sections copied are discarded, the fresh table is complete. -/
def startFresh (s : State) : State :=
  let s1 := { s with ctu := { s.ctu with rep := some freshTable, copied := List.replicate Config.sections true } }
  reView false s (tableCompleted s1)

/-- The join conditions (R34). -/
def State.joins (s : State) : Bool :=
  s.lnk.st == .joining && s.su.failed.isEmpty && s.su.mountEnded && s.seat.isSome && s.ctu.complete

/-- The station becomes ACTIVE (R34, R36, R73, R84, R124). -/
def becomeActive (s : State) : State :=
  let s1 := clearAlarm .planConflict
    { s with lnk := { s.lnk with st := .active }, su := { s.su with joinWatch := none } }
  let s2 := if ((s1.table.map (·.phase == .opened)).getD false) then startTakt s1 else s1
  moveLost (takeUp s2)

/-- The join conditions are checked at the end of a slot (R34). -/
def checkJoin (s : State) : State := if s.joins then becomeActive s else s

/-- The join watch counts a slot, `gath` saying that it ran when the slot's end came (R33). -/
def countJoin (gath : Bool) (s : State) : State :=
  if gath then { s with su := { s.su with joinWatch := s.su.joinWatch.map fun n => min Config.joinSlots (n + 1) } } else s

/-- The slot that ends is the eighth of the join watch (R33). -/
def State.joinDue (gath : Bool) (s : State) : Bool := gath && s.su.joinWatch == some (Config.joinSlots - 1)

/-- The join watch and the RESYNC watch at the end of a slot (R33, R59). `sender`: a table sender's frame ended; `due`: the
slot was the join watch's eighth; `res`: the RESYNC watch ran when the slot's end came (assumption 14). -/
def watches (sender due res : Bool) (s : State) : State :=
  let s1 :=
    match s.su.joinWatch with
    | none => s
    | some n =>
      if sender then { s with su := { s.su with joinWatch := some 0 } }
      else if due && n == Config.joinSlots then startFresh s
      else s
  match s1.ctu.watch with
  | none => s1
  | some n =>
    if sender then { s1 with ctu := { s1.ctu with watch := some 0 } }
    else if res then
      let s' := { s1 with ctu := { s1.ctu with watch := some (n + 1) } }
      if Config.resyncSlots ≤ n + 1 then resyncExpired s' else s'
    else s1

/-! ## The plan (R28 to R32) -/

/-- The target id (R28): the plan id carried by the lowest-numbered station present, ACTIVE, with a table. -/
def State.targetId (s : State) : Option Nat :=
  (s.lnk.roster.find? fun e => e.present && e.last == some .active && !e.flags.noTable).map (·.planId)

/-- Staging is cleared (R28). -/
def clearStaging (s : State) : State := { s with su := { s.su with staging := [], stagedId := 0 } }

/-- The held plan is discarded (R29, R32, R34, R167). -/
def discardPlan (s : State) : State :=
  let s1 := clearAlarm .notSeated (discardTable s)
  storeSettle { s1 with su := { s1.su with held := none, joinWatch := none }, ocu := { s1.ocu with mapCursor := none } }

/-- A valid plan becomes the held plan, and the station looks for its seat (R31, R32, R167). -/
def holdPlan (p : Plan) (s : State) : State :=
  let s1 := clearAlarm .planInvalid (clearStaging s)
  let s2 := storeSettle { s1 with su := { s1.su with held := some p }, ocu := { s1.ocu with mapCursor := some (0, 0) } }
  if s2.seat.isSome then beginGather (clearAlarm .notSeated s2) else raise .notSeated s2

/-- A staged plan is refused (R31). -/
def refusePlan (s : State) : State := raise .planInvalid (clearStaging s)

/-- The first `n` bytes of the staging buffer, when all are received. -/
def stagedBytes (n : Nat) (m : List Host.Cell) : Option (List Byte) :=
  if (m.take n).map (·.1) = List.range n then some ((m.take n).map (·.2)) else none

/-- The plan length given by bytes 2 and 3, when both are received. -/
def stagedLength (m : List Host.Cell) : Option Nat :=
  match cellGet m 2, cellGet m 3 with
  | some a, some b => some (a.toNat + 256 * b.toNat)
  | _, _ => none

/-- The smallest length a plan can have (R183). -/
def smallestPlan : Nat := 49

/-- The attempt to complete the staged plan (R30, R31). -/
def tryComplete (s : State) : State :=
  match stagedLength s.su.staging with
  | none => s
  | some n =>
    if n < smallestPlan ∨ Config.stagingBytes < n then refusePlan s
    else
      match stagedBytes n s.su.staging with
      | none => s
      | some bs =>
        if rd16 bs (n - 2) = (crc16 (bs.take (n - 2))).toNat then
          match validPlan s.su.stagedId bs with
          | some p => holdPlan p s
          | none => refusePlan s
        else s

/-- The bytes of a PLAN note are stored (R29). -/
def storeBytes (off : Nat) (bs : List Byte) (m : List Host.Cell) : List Host.Cell :=
  bs.zipIdx.foldl (fun m x => if off + x.2 < Config.stagingBytes then cellPut (off + x.2) x.1 m else m) m

/-- A PLAN note is staged, staging restarting when its id is another (R29). -/
def stagePlan (id off : Nat) (bs : List Byte) (s : State) : State :=
  let s1 := if s.su.stagedId = id then s else { s with su := { s.su with staging := [], stagedId := id } }
  tryComplete { s1 with su := { s1.su with staging := storeBytes off bs s1.su.staging } }

/-- An ignored PLAN note is counted (R28, R29). -/
def countIgnored (s : State) : State := { s with su := { s.su with ignored := satAdd 65535 s.su.ignored 1 } }

/-- A PLAN note handed to the start-up logic (R29). -/
def handlePlan (id off : Nat) (bs : List Byte) (s : State) : State :=
  match s.lnk.st with
  | .active | .resync => countIgnored s
  | .joining =>
    if id = 0 ∨ ((s.targetId.map fun t => t != id).getD false) = true then s
    else
      match s.su.held with
      | none => stagePlan id off bs s
      | some p => if p.id = id then countIgnored s else stagePlan id off bs (clearStaging (discardPlan s))
  | _ => s

/-- Before the notes of a frame the start-up logic of a JOINING station compares the target id with its own (R29). -/
def compareTarget (s : State) : State :=
  match s.targetId with
  | none => s
  | some t =>
    if s.lnk.st = .joining ∧ (s.su.held.map (·.id)) ≠ some t ∧ s.su.stagedId ≠ t then
      clearStaging (if s.su.held.isSome then discardPlan s else s)
    else s

/-- The plan id of the station's frames (R26, R28). -/
def State.planIdField (s : State) : Nat :=
  if s.lnk.st = .heldCheck then 0 else ((s.su.held.map (·.id)).getD s.su.stagedId)

/-! ## Entry to LISTEN -/

/-- The queue is emptied: every note and every waiting request is discarded (R19). -/
def Lnk.empty (l : Lnk) : Lnk := { l with queue := [], waiting := [] }

/-- FEED_ABSENT and UNLOAD_ABSENT end on entry to LISTEN (R171). -/
def endAbsent (s : State) : State :=
  let s1 := edgeAlarm .feedAbsent s.ocu.feedAbs false (edgeAlarm .unloadAbsent s.ocu.unloadAbs false s)
  { s1 with ocu := { s1.ocu with feedAbs := false, unloadAbs := false } }

/-- The RESYNC alarm ends when the station leaves RESYNC (R59). -/
def endResync (s : State) : State := if s.lnk.st = .resync then clearAlarm .resync s else s

/-- The LNK on entry to LISTEN: the queue emptied, the failure count 0, nothing being sent. -/
def Lnk.toListen (silenced : Bool) (l : Lnk) : Lnk :=
  { l.empty with st := .listen, silenced := silenced, quiet := if silenced then .stopped else .running, txFail := 0,
                 line := .idle, cold := false, sentRound := none, okRound := none, noSend := false }

/-- Entry to LISTEN from another state: by a duplicate (`silenced`, R17) or a transmit failure (R18). The queue is emptied
(R19), the table discarded (R39), the WSC cleared (R62), the fetch and the retractions ended (R158, R164), the BSQ stopped
(R105), the duties given up (R124); a pusher that reports stays REPORTING (assumption 56). -/
def enterListen (silenced : Bool) (s : State) : State :=
  let s1 := clearWsc (discardTable (endResync s))
  let s2 := stopWork (giveUp (endAbsent { s1 with lnk := s1.lnk.toListen silenced, rcu := s1.rcu.dropFetch }))
  { s2 with su := { s2.su with joinWatch := none } }

/-- The station leaves LISTEN (R14, R15, R25): JOINING when its self-check passed, HELD_CHECK when it failed. -/
def leaveListen (s : State) : State :=
  let st := if s.su.failed.isEmpty then StState.joining else StState.heldCheck
  let s1 := { s with lnk := { s.lnk with st := st, quiet := .stopped }, bsq := { s.bsq with enabled := true } }
  if st = .joining then beginGather s1 else s1

/-! ## Conflicts (R35, R36) -/

/-- The roster shows a present station with a lower number whose flag is set. -/
def Lnk.lowerHas (f : HFlags → Bool) (stn : Nat) (l : Lnk) : Bool := (l.roster.take stn).any fun e => e.present && f e.flags

/-- The feed duty is lost (R35). A clamp wait that runs stops, and a note already queued stays queued (assumption 50). -/
def loseFeed (s : State) : State :=
  if s.su.straps.feed && !s.su.feedLost && s.lnk.lowerHas (·.feed) s.stn then
    raise .feedConflict { s with su := { s.su with feedLost := true }, tmu := s.tmu.giveUpFeed
                                 wsc := { s.wsc with clampWait := false, voteRec := none } }
  else s

/-- The unload duty is lost (R35); a note already queued stays queued (assumption 50). -/
def loseUnload (s : State) : State :=
  if s.su.straps.unload && !s.su.unloadLost && s.lnk.lowerHas (·.unload) s.stn then
    raise .unloadConflict { s with su := { s.su with unloadLost := true }, tmu := s.tmu.giveUpUnload }
  else s

/-- Duties are lost at the end of a frame handling (R35). -/
def loseDuties (s : State) : State := loseUnload (loseFeed s)

/-- The LNK discards every table-changing note, those still waiting to enter the queue too, and keeps the addressed ones (R36,
assumption 55). -/
def Lnk.dropTableNotes (l : Lnk) : Lnk :=
  Lnk.drain { l with queue := l.queue.filter (fun q => q.note.cls != .table)
                     waiting := l.waiting.filter fun q => q.note.cls != .table }

/-- The drop to JOINING by a plan conflict with a lower-numbered sender (R36). PLAN_CONFLICT is raised behind the discard of the
table, with index 0 (assumption 49); a pusher that reports stays REPORTING (assumption 56). -/
def dropToJoining (s : State) : State :=
  let s1 := clearWsc (discardPlan (endResync s))
  let s2 := stopWork (giveUp { s1 with lnk := { s1.lnk.dropTableNotes with st := .joining } })
  raise .planConflict (clearStaging s2)

/-- The plan conflict of a readable frame (R36); a higher-numbered sender's notes and section are left out by their plan
id. -/
def planConflict (f : Frame) (s : State) : State :=
  if s.working && (f.state == .active || f.state == .resync) && !f.flags.noTable &&
      (s.su.held.map (·.id)) != some f.planId && decide (f.sender < s.stn) then dropToJoining s
  else s

/-! ## Restart (R37, R38) -/

/-- The RCU at a restart (R38, R141): the write queue discarded and counted, the ring freed and counted, reservations, fetch
and retractions dropped. The record under program stays until its program ends. -/
def Rcu.restart (r : Rcu) : Rcu :=
  let keep := match r.port with | some (.record ..) => 1 | _ => 0
  let gone := r.queue.drop keep
  let kept := r.queue.take keep
  let ofKept := fun (e : TraceEntry) =>
    kept.any fun b => b.kind != RecKind.orphan && e.writing && e.isWire b.strip b.unit b.group b.wire
  let lost := (r.ring.filter fun e => !ofKept e).length
  Rcu.addLost lost (Rcu.addDiscarded gone.length
    { r.dropFetch with queue := kept, ring := r.ring.filter ofKept, resv := [] })

/-- The RCU is at rest: no operation under way, and no header owed for a block just erased (R152). -/
def Rcu.atRest (r : Rcu) : Bool :=
  r.port.isNone && (r.store == .fault || !r.owed.any fun o => match o with | .erased _ => true | _ => false)

/-- The OCU after a restart (R38, R165, R168): as after power-on, a row under transmission running on. -/
def Ocu.restart (o : Ocu) : Ocu := { Ocu.reset with portRow := o.portRow }

/-- Every block is at rest: step 1 of the restart sequence has ended (R37). -/
def State.atRest (s : State) : Bool := s.bsq.atRest && s.rcu.atRest && s.tmu.atRest

/-- The self-check of a restart begins (R37): an elevator whose motion ended in FAULT during step 1 is idle from now on (R38,
assumption 82). -/
def beginRestartCheck (s : State) : State :=
  let s1 := restElevs s
  { s1 with su := { s1.su with run := .restartCheck } }

/-- Step 1 of the restart sequence goes on: PARK is sent, and the self-check begins once every block is at rest (R37, R106). -/
def restProgress (s : State) : State :=
  if s.su.run = .resting then
    let s1 := restBsq s
    if s1.atRest then beginRestartCheck s1 else s1
  else s

/-- A RESTART taken (R37, R38). -/
def beginRestart (s : State) : State :=
  let s1 := restartTmu (restartBsq { s with
    lnk := { Lnk.reset with line := match s.lnk.line with | .hearing => .hearing | _ => .idle }
    su := { StartUp.reset s.su.straps with run := .resting, failed := s.su.failed, mountEnded := true }
    ctu := .reset
    wsc := .reset
    rcu := s.rcu.restart
    ocu := s.ocu.restart })
  restProgress s1

/-- The alarms of conditions that still stand after a restart (R38). No elevator is FAULT then, so ELEVATOR_FAULT is none of
them (R128, assumption 82). -/
def restandAlarms (s : State) : State :=
  let s0 := { s with ocu := { s.ocu with alarms := [], overflow := 0 } }
  let s1 := if s.bsq.st = .halted then raise .headHalted s0 else if s.bsq.st = .spoolOut then raise .spoolOut s0 else s0
  if s.rcu.store = .full then raise .storeFull s1 else if s.rcu.store = .fault then raise .storeFault s1 else s1

/-- The end of a self-check (R14, R25, R37): its result is held and the station enters LISTEN with its quiet timer. -/
def endSelfCheck (failed : List CheckItem) (s : State) : State :=
  if s.su.run = .selfCheck ∨ s.su.run = .restartCheck then
    let s1 := if s.su.run = .restartCheck then restandAlarms s else s
    { s1 with su := { s1.su with run := .running, failed := failed }, lnk := { s1.lnk with quiet := .running } }
  else s

end Sys2Proof.Machine
end

