-- ==== Sys2Proof/Machine/Flags.lean ====
section
/-! DEFINITION. The header flags (R3, R28), the vote (R76) and the decision to start the index (R78). -/

namespace Sys2Proof.Machine

/-- The vote (R76). -/
def State.voteNow (s : State) : Bool :=
  s.lnk.st == .active && s.wsc.claims.isEmpty &&
  (s.bsq.parked || (s.bsq.stopped && s.wsc.takt == .expired)) &&
  (s.wsc.takt == .expired || (s.firstTask true).isNone) &&
  !(s.ownWindow.isSome && s.tmu.clamp == .fault)

/-- The no-table flag: set but in ACTIVE and RESYNC (R3). -/
def State.noTable (s : State) : Bool := !s.working

/-- The plan-wanted flag: JOINING with no plan held (R28). -/
def State.planWanted (s : State) : Bool := s.lnk.st == .joining && s.su.held.isNone

/-- The flags of a frame built now (R3); `claim` says that the frame carries a CLAIM (R22). -/
def State.headerFlags (s : State) (claim : Bool) : HFlags where
  feed := s.su.straps.feed
  unload := s.su.straps.unload
  voteYes := s.voteNow && !claim
  inReady := s.inReady
  outReady := s.outReady
  textReady := s.ocu.textReady
  planWanted := s.planWanted
  checkPassed := s.su.failed.isEmpty
  noTable := s.noTable

/-- The unload station's roster entry (R78): the lowest-numbered one present, ACTIVE, with the unload flag. -/
def Lnk.unloadStation (l : Lnk) : Option RosterEntry :=
  l.roster.find? fun e => e.present && e.last == some .active && e.flags.unload

/-- The unload station showed the out-ready flag; a station that acts as unload itself uses its own. -/
def State.outReadyShown (s : State) (e : RosterEntry) : Bool := if s.actsUnload then s.outReady else e.flags.outReady

/-- The decision to start the index (R78). -/
def State.startsIndex (s : State) : Bool :=
  match s.table, s.su.held, s.lnk.unloadStation with
  | some t, some p, some e =>
    s.actsFeed && t.phase == .opened && t.noClaim p && s.voteRecYes && s.voteNow &&
    (s.outReadyShown e || (t.railOut.isNone && (t.win? p.last).isNone)) && s.inReady &&
    (t.railIn.isSome || p.wins.any fun w => (t.win? w).isSome)
  | _, _, _ => false

end Sys2Proof.Machine
end

