-- ==== Sys2Proof/Machine/Link.lean ====
section
/-! DEFINITION. The Link Controller (chapter 1): frame building (R20 to R22), slot positions (R9, R10), roster and absence
(R12, R13), transmit failure (R18), the ends of slots and the handling of a frame (R7, R8, R15, R17, R23). -/

namespace Sys2Proof.Machine

/-! ## Building a frame (R20 to R22) -/

/-- What becomes of a note of the queue at a frame build: it stays, it flies in the frame, or it is dropped (R21). -/
inductive Fate where
  | stay | fly | drop
  deriving DecidableEq, Repr

/-- A note fits after `n` notes in a frame of `chars` characters (R20). -/
def fits (n chars : Nat) (x : Note) : Bool :=
  decide (n < Config.frameNotes) && decide (chars + x.encode.length ≤ Config.frameChars)

/-- A SKIP waits in the queue of a station in RESYNC, and the notes behind it pass it (R71, assumption 64). -/
def State.keepsBack (s : State) : Note → Bool
  | .skip .. => s.lnk.st == .resync
  | _ => false

/-- The table-changing notes of the queue in creation order, each CLAIM checked again (R20, R21). -/
def placeTable (s : State) : List QNote → Nat → Nat → List (Nat × Nat × Nat) → List (QNote × Fate)
  | [], _, _, _ => []
  | q :: r, n, chars, claims =>
    if q.note.cls != .table || s.keepsBack q.note then (q, .stay) :: placeTable s r n chars claims
    else if !fits n chars q.note then (q, .stay) :: r.map fun x => (x, .stay)
    else
      match q.note with
      | .claim w u g =>
        if s.recheck claims w u g then
          (q, .fly) :: placeTable s r (n + 1) (chars + q.note.encode.length) (claims ++ [(w, u, g)])
        else (q, .drop) :: placeTable s r n chars claims
      | x => (q, .fly) :: placeTable s r (n + 1) (chars + x.encode.length) claims

/-- The addressed notes of the queue in creation order (R20), a source of their own: a table-changing note without room holds
back none of them (assumption 47). -/
def placeAddressed : List QNote → Nat → Nat → List (QNote × Fate)
  | [], _, _ => []
  | q :: r, n, chars =>
    if q.note.cls != .addressed then (q, .stay) :: placeAddressed r n chars
    else if !fits n chars q.note then (q, .stay) :: r.map fun x => (x, .stay)
    else (q, .fly) :: placeAddressed r (n + 1) (chars + q.note.encode.length)

/-- The notes of the fetch output queue that fit (R20). -/
def placeOut : List Note → Nat → Nat → List Note
  | [], _, _ => []
  | x :: r, n, chars => if fits n chars x then x :: placeOut r (n + 1) (chars + x.encode.length) else []

/-- The notes that fly. -/
def flying (l : List (QNote × Fate)) : List Note := l.filterMap fun x => if x.2 = .fly then some x.1.note else none

/-- The notes dropped. -/
def droppedOf (l : List (QNote × Fate)) : List Note := l.filterMap fun x => if x.2 = .drop then some x.1.note else none

/-- Characters of some notes. -/
def noteChars (l : List Note) : Nat := (l.map fun x => x.encode.length).sum

/-- A CLAIM note. -/
def Note.isClaim : Note → Bool
  | .claim .. => true
  | _ => false

/-- What a frame build decides: the frame, the queue with its notes in flight, the CLAIM notes dropped, the notes taken from
the fetch output queue. -/
structure Built where
  frame : Frame
  queue : List QNote
  dropped : List Note
  out : Nat
  deriving DecidableEq, Repr

/-- The frame built from the state at this moment, in the order of R20. The vote is formed before R21 drops CLAIMs (R22, R76,
assumption 48). -/
def State.build (s : State) : Built :=
  let rep := if s.working then s.ctu.rep else none
  let n := sectionNumber s.lnk.round s.stn
  let sec := if s.lnk.st = .active then rep.map fun t => (n, t.body n) else none
  let base := 17 + ((sec.map fun x => 2 + x.2.length).getD 0)
  let table := if s.working then placeTable s s.lnk.queue 0 base [] else s.lnk.queue.map fun q => (q, Fate.stay)
  let ts := flying table
  let start := if fits ts.length (base + noteChars ts) .indexStart && s.startsIndex then [Note.indexStart] else []
  let n2 := ts ++ start
  let addr := placeAddressed ((table.filter (·.2 != .drop)).map (·.1)) n2.length (base + noteChars n2)
  let n3 := n2 ++ flying addr
  let out := placeOut s.rcu.outNotes n3.length (base + noteChars n3)
  let tableFlies := (table.filter (·.2 != .drop)).map (·.2 == .fly)
  { frame := ⟨s.stn, s.lnk.round, s.planIdField, s.lnk.st, s.su.straps.role, s.headerFlags (ts.any Note.isClaim),
      (rep.map Table.digest).getD 0, sec, n3 ++ out⟩
    queue := (addr.zip tableFlies).map fun x => { x.1.1 with inFlight := x.2 || x.1.2 == .fly }
    dropped := droppedOf table
    out := out.length }

/-- A CLAIM dropped at the frame build: the WSC no longer counts it as its own (R21, R63). -/
def dropBuilt (s : State) (n : Note) : State :=
  match n with
  | .claim w u g => dropClaims (fun e => !e.held && e.isTask w u g) s
  | _ => s

/-- The station builds its frame and begins sending (R11, R20 to R22, R76); its vote still counts the entries whose CLAIMs this
build drops (assumption 48). A request that waits takes a place that a dropped CLAIM frees, and flies in a later frame
(assumption 65). -/
def buildFrame (s : State) : State :=
  let b := s.build
  let s1 := { s with
    lnk := Lnk.drain { s.lnk with queue := b.queue, line := .sending b.frame.chars, sentRound := some s.lnk.round }
    rcu := { s.rcu with outFlight := b.out }
    wsc := { s.wsc with vote := s.voteNow } }
  b.dropped.foldl dropBuilt s1

/-- The cold-start frame: slot s of round 0 (R14). -/
def sendCold (s : State) : State :=
  let s1 := leaveListen s
  buildFrame { s1 with lnk := { s1.lnk with slot := s.stn, round := 0, cold := true, noSend := false } }

/-! ## Slots, roster, absence (R9, R10, R12, R13, R18) -/

/-- The slots are followed: outside LISTEN and in the silenced LISTEN (R9, R17). -/
def Lnk.follows (l : Lnk) : Bool := l.st != .listen || l.silenced

/-- The position after slot `k` of a round (R9). -/
def Lnk.after (k : Nat) (round : Half) (l : Lnk) : Lnk :=
  { l with slot := (k + 1) % 8, round := if k + 1 = 8 then round + 1 else round, noSend := false }

/-- A roster entry changed. -/
def Lnk.setEntry (k : Nat) (f : RosterEntry → RosterEntry) (l : Lnk) : Lnk := { l with roster := l.roster.modify k f }

/-- A silent slot counted in the entry of another station (R13). -/
def RosterEntry.hush (e : RosterEntry) : RosterEntry :=
  if e.present then
    if Config.absentSlots ≤ e.silent + 1 then { e with present := false, silent := 0, vote := false }
    else { e with silent := e.silent + 1 }
  else e

/-- FEED_ABSENT and UNLOAD_ABSENT by the roster, at every change of it (R171). -/
def judgeAbsent (s : State) : State :=
  if s.lnk.st = .listen then s
  else
    let shows := fun (f : HFlags → Bool) =>
      s.lnk.roster.any fun e => e.present && f e.flags && (e.last == some .active || e.last == some .resync)
    let fa := !shows (·.feed)
    let ua := !shows (·.unload)
    edgeAlarm .unloadAbsent s.ocu.unloadAbs ua
      (edgeAlarm .feedAbsent s.ocu.feedAbs fa { s with ocu := { s.ocu with feedAbs := fa, unloadAbs := ua } })

/-- A silent slot of station number `k`, its absence signalled with the third (R13). -/
def countSilence (k : Nat) (s : State) : State :=
  if k = s.stn then s
  else
    let before := (s.lnk.entry k).present
    let s1 := judgeAbsent { s with lnk := s.lnk.setEntry k RosterEntry.hush }
    if before && !(s1.lnk.entry k).present then absence k s1 else s1

/-- The transmit failure (R18): the own absence effect, then LISTEN. -/
def failTransmit (s : State) : State := enterListen false (absence s.stn s)

/-- The slot counter has moved past the station's own slot of a round (R18). -/
def passOwn (k : Nat) (round : Half) (s : State) : State :=
  if k = s.stn && s.lnk.okRound != some round &&
      (s.lnk.st == .joining || s.lnk.st == .active || s.lnk.st == .resync) then
    let s1 := { s with lnk := { s.lnk with txFail := s.lnk.txFail + 1 } }
    if Config.sendFailures ≤ s1.lnk.txFail then failTransmit s1 else s1
  else s

/-- The vote record at a slot that ended in silence or with an unreadable frame (R77). -/
def voteUnseen (k : Nat) (s : State) : State := { s with wsc := s.wsc.slotEnded k (s.lnk.entry k).voter }

/-- The end of slot `k` of a round without a readable frame, after what the LNK and CTU did: transmit failure, watches, vote
record, join conditions. `gath` and `res` say which watches ran when the end came. -/
def endSlot (k : Nat) (round : Half) (gath res : Bool) (s : State) : State :=
  let s1 := passOwn k round s
  checkJoin (settleVoteRec (voteUnseen k (watches false (s1.joinDue gath) res (countJoin gath s1))))

/-- The join watch runs (R33). -/
def State.watchesJoin (s : State) : Bool := s.lnk.st == .joining && s.su.joinWatch.isSome

/-- The current slot is silent, heard so or counted so (R9, R10, R13). -/
def endSilent (s : State) : State :=
  let k := s.lnk.slot
  let round := s.lnk.round
  let s1 := { s with lnk := s.lnk.after k round }
  endSlot k round s.watchesJoin (s.lnk.st == .resync) (countSilence k s1)

/-- The current slot ends in silence (R9). -/
def silentSlot (s : State) : State := if s.lnk.follows then endSilent s else s

/-- A number of slots counted as silent one after the next, all of them also when an own slot among them brings the station to
LISTEN (R10, assumption 15). -/
def silentSlots : Nat → State → State
  | 0, s => s
  | n + 1, s => silentSlots n (endSilent s)

/-- The position of a slot of a round (R10). -/
def position (round : Half) (slot : Nat) : BitVec 19 := BitVec.ofNat 19 (round.toNat * 8 + slot)

/-- The frame's position minus the expected one, modulo 524,288 (R10). -/
def posDiff (f : Frame) (l : Lnk) : Nat := (position f.round f.sender - position l.round l.slot).toNat

/-- A correction carries the position past an own slot (R77): one of the skipped slots is the own one, or the positions are
far apart. -/
def State.passesOwn (s : State) (d : Nat) : Bool :=
  (decide (d ≤ 7) && decide ((s.stn + 8 - s.lnk.slot) % 8 < d)) || between 8 d 524280

/-- The vote record of a station whose own slot is passed by a correction is not complete, and not started (R77). -/
def dropVoteRec (passes : Bool) (s : State) : State :=
  if passes then { s with wsc := { s.wsc with voteRec := none } } else s

/-- The slot position of a readable frame (R10). With positions far apart no slot counts as silent and no failure to send is
counted (R18, assumption 46). -/
def correctSlot (f : Frame) (s : State) : State :=
  let d := posDiff f s.lnk
  let s1 := dropVoteRec (s.passesOwn d) (if d ≤ 7 then silentSlots d s else s)
  { s1 with lnk := s1.lnk.after f.sender f.round }

/-- The entry of a frame's sender (R12). -/
def RosterEntry.heard (f : Frame) : RosterEntry := ⟨true, some f.state, some f.role, f.flags, f.planId, f.flags.voteYes, 0⟩

/-- The frame shows the station rejoined (R12). -/
def RosterEntry.rejoins (f : Frame) (e : RosterEntry) : Bool :=
  e.present && (e.last == some .active || e.last == some .resync) && (f.state == .joining || f.state == .heldCheck)

/-- The roster update with its rejoin signal (R12, R60). -/
def hearRoster (f : Frame) (s : State) : State :=
  let rejoined := (s.lnk.entry f.sender).rejoins f
  let s1 := judgeAbsent { s with lnk := s.lnk.setEntry f.sender fun _ => .heard f }
  if rejoined then absence f.sender s1 else s1

/-! ## The notes of a frame (R7) -/

/-- TEXT bytes enter the text queue; what finds it full is dropped and counted; the text-ready flag follows (R172). -/
def Ocu.takeText (bs : List Byte) (o : Ocu) : Ocu :=
  let room := Config.textBytes - o.textQ.length
  let q := o.textQ ++ bs.take room
  { o with textQ := q, textDropped := satAdd 65535 o.textDropped (bs.length - room)
           textReady := o.textReady && decide (q.length < 72) }

/-- One addressed note (R7 step 6). Once a RESTART has been taken no further note is handled (R37). -/
def handAddressed (from_ : Nat) (s : State) (n : Note) : State :=
  if s.su.run != .running || n.target != some s.stn then s
  else
    match n with
    | .restart _ => beginRestart s
    | .text _ bs => { s with ocu := s.ocu.takeText bs }
    | .fetch _ f => handleFetch from_ f s
    | .cancel _ tag => handleCancel tag s
    | .retract _ tag num => handleRetract from_ tag num s
    | _ => s

/-- One plan note (R7 step 7). -/
def handPlan (s : State) (n : Note) : State :=
  match n with
  | .plan id off bs => handlePlan id off bs s
  | _ => s

/-- The plan notes of a frame, the target id compared first (R29, R37). -/
def handPlans (f : Frame) (s : State) : State :=
  if s.su.run != .running then s else f.notes.foldl handPlan (compareTarget s)

/-- Steps 3 to 7 of R7. -/
def handleFrame (f : Frame) (s : State) : State :=
  let s1 := handHeader f (planConflict f (hearRoster f s))
  let s2 := f.notes.foldl (fun s n => handNote f n s) s1
  handPlans f (f.notes.foldl (handAddressed f.sender) s2)

/-- A frame that vetoes the vote record (R77). -/
def Frame.vetoes (f : Frame) : Bool := f.state == .active && (f.role == .bond || f.role == .pull) && !f.flags.voteYes

/-- A table sender's frame for the watches of this station (R33, R59). -/
def State.hearsSender (f : Frame) (s : State) : Bool := ((s.su.held.map fun p => isTableSender p f).getD false) && f.sender != s.stn

/-- What follows the handling of a readable frame: own notes leave the queue (R23), duties (R35), watches, vote record, join
conditions, skip requests. `due` says that the slot was the join watch's eighth. -/
def afterFrame (f : Frame) (own due res : Bool) (s : State) : State :=
  let s1 := if own then { s with lnk := s.lnk.sent, rcu := s.rcu.outSent } else s
  let s2 := watches (s1.hearsSender f) due res (loseDuties s1)
  let s3 := if own then startVoteRec s2 else settleVoteRec { s2 with wsc := s2.wsc.slotEnded f.sender f.vetoes }
  skipScan (checkJoin s3)

/-- A duplicate of the own station number is heard (R17). DUPLICATE_STATION is raised behind the discard of the table, with
index 0 (assumption 49). -/
def hearDuplicate (s : State) : State := raise .duplicateStation (enterListen true s)

/-- A readable frame in the silenced LISTEN (R7, R17): slot position, roster, and a RESTART addressed to this station. -/
def silencedFrame (f : Frame) (s : State) : State :=
  let s1 := correctSlot f s
  let s2 := if f.sender = s.stn then s1 else hearRoster f s1
  f.notes.foldl (fun s n => match n with
    | .restart _ => handAddressed f.sender s n
    | _ => s) s2

/-- The own frame has been read back whole: the failure count is 0 and the line idle (R18, R23). -/
def Lnk.readBack (l : Lnk) : Lnk := { l with okRound := some l.round, txFail := 0, line := .idle, cold := false }

/-- The end of a readable frame, `own` when it is the frame this station sent (R7, R15, R17, R23). The join watch that runs
counts the slot before the frame is handled, so that a watch the frame starts does not count it, also when the frame ends one
run of the watch and starts the next (R33, assumption 14). -/
def readableFrame (f : Frame) (own : Bool) (s : State) : State :=
  if s.lnk.st = .listen ∧ s.lnk.silenced = true then silencedFrame f s
  else
    let gath := s.watchesJoin
    let res := s.lnk.st == .resync
    let s1 :=
      if s.lnk.st = .listen then
        let l := leaveListen s
        { l with lnk := l.lnk.after f.sender f.round }
      else correctSlot f s
    if f.sender = s.stn ∧ own = false then hearDuplicate s1
    else
      let s2 := handleFrame f (countJoin gath s1)
      if s2.su.run != .running then s2 else afterFrame f own (s1.joinDue gath) res s2

/-- The end of an unreadable frame, or of the station's own fragment (`mine`, R16), in the current slot (R8). -/
def unreadableFrame (mine : Bool) (s : State) : State :=
  if s.lnk.follows then
    let k := s.lnk.slot
    let round := s.lnk.round
    let s1 := { s with lnk := s.lnk.after k round }
    endSlot k round s.watchesJoin (s.lnk.st == .resync) (if mine then s1 else unreadableHeard s1)
  else if s.lnk.quiet = .due then sendCold s
  else s

/-- The LNK alone while a self-check or the rest step of a restart runs: frames are not handled (R25, R37). -/
def idleLine (s : State) : State := { s with lnk := { s.lnk with line := .idle } }

end Sys2Proof.Machine
end

