-- ==== Sys2Proof/Machine/Screen.lean ====
section
/-! DEFINITION. The screen image (R165, R166, R169, R175), the changed-row set (R168), and what ends every command. -/

namespace Sys2Proof.Machine

/-! ## Text of fields -/

/-- A character a cell can hold; a space for any other (R165). -/
def printable (b : Byte) : Byte := if 0x20#8 ≤ b ∧ b ≤ 0x7E#8 then b else 0x20#8

/-- Decimal digits, least significant first, of a number of at most `n` digits. -/
def digitsRev : Nat → Nat → List Byte
  | 0, _ => []
  | n + 1, x => byteN (0x30 + x % 10) :: (if x / 10 = 0 then [] else digitsRev n (x / 10))

/-- A text right-aligned in its width. -/
def alignRight (w : Nat) (l : List Byte) : List Byte := List.replicate (w - l.length) 0x20#8 ++ l

/-- A count in its width; one wider than its field shows as all nines (R165). -/
def countField (w n : Nat) : List Byte :=
  if 10 ^ w ≤ n then List.replicate w 0x39#8 else alignRight w (digitsRev w n).reverse

/-- A count, or blanks. -/
def countOr (w : Nat) (n : Option Nat) : List Byte :=
  match n with
  | none => List.replicate w 0x20#8
  | some n => countField w n

/-- The lowest six decimal digits of a strip counter (R165). -/
def lowSix (n : Nat) : Nat := n % 1000000

/-- Fields with one space between them. -/
def joinFields : List (List Byte) → List Byte
  | [] => []
  | [a] => a
  | a :: r => a ++ 0x20#8 :: joinFields r

/-- A row of 64 cells from a text, with one emphasis. -/
def rowOf (em : Bool) (l : List Byte) : List Cell :=
  ((l ++ List.replicate Config.screenCols 0x20#8).take Config.screenCols).map fun b => ⟨printable b, em⟩

/-- A blank row. -/
def blankRow : List Cell := List.replicate Config.screenCols .blank

/-! ## The panes -/

/-- The station state as shown (R165). -/
def State.stateText (s : State) : List Byte :=
  match s.lnk.st with
  | .listen => if s.lnk.silenced then [0x53, 0x49, 0x4C, 0x45, 0x4E, 0x54] else [0x4C, 0x49, 0x53, 0x54, 0x45, 0x4E]
  | .joining => [0x4A, 0x4F, 0x49, 0x4E]
  | .active => [0x41, 0x43, 0x54, 0x49, 0x56, 0x45]
  | .resync => [0x52, 0x45, 0x53, 0x59, 0x4E, 0x43]
  | .heldCheck => [0x48, 0x43, 0x48, 0x45, 0x43, 0x4B]

/-- The BSQ state as shown (R165). -/
def BState.text : BState → List Byte
  | .idle => [0x49, 0x44, 0x4C, 0x45]
  | .running => [0x52, 0x55, 0x4E]
  | .finishing => [0x46, 0x49, 0x4E, 0x49, 0x53, 0x48]
  | .paused => [0x50, 0x41, 0x55, 0x53, 0x45, 0x44]
  | .halted => [0x48, 0x41, 0x4C, 0x54, 0x45, 0x44]
  | .spoolOut => [0x53, 0x50, 0x4F, 0x4F, 0x4C]

/-- The takt seconds shown (R73): the limit in STOPPED, 0 in EXPIRED, a free value up to the limit in RUNNING. -/
def State.taktSeconds (s : State) : Nat :=
  match s.wsc.takt, s.su.held with
  | .expired, _ => 0
  | _, none => Config.taktNoPlan
  | .stopped, some p => p.taktLimit
  | .running, some p => min p.taktLimit (Config.taktShown s.free)

/-- The first three fields of the status line: station, state, role (R165). -/
def State.statusHead (s : State) : List (List Byte) :=
  [[0x53, byteN (0x30 + s.stn)], alignRight 6 s.stateText, [if s.pullRole then 0x50 else 0x42]]

/-- The status line (R165). In LISTEN after a failed self-check it is the ordinary line: the failed names show in HELD_CHECK
(assumption 78). -/
def State.statusRow (s : State) : List Byte :=
  if s.lnk.st = .heldCheck then joinFields (s.statusHead ++ [Config.failedNames (s.su.failed.map CheckItem.num)])
  else
    joinFields (s.statusHead ++ [countOr 5 (s.table.map (·.index.toNat)), alignRight 6 s.bsq.st.text,
      countField 2 s.taktSeconds, countField 5 s.ctu.refused, countField 5 s.rcu.discarded, countField 3 s.ocu.overflow,
      countField 5 s.su.ignored, if s.ocu.fullMark then [0x46, 0x55, 0x4C, 0x4C] else List.replicate 4 0x20])

/-- The glyph of a unit (R166), the first line of the table it meets; free for an entry that meets none (assumption 5). -/
def glyph (stn : Nat) (e : UEntry) : Byte :=
  if e.st = .skipped then 0x73
  else if e.st = .tested then 0x74
  else if e.st = .failed then 0x78
  else if 0 < e.claims stn then 0x63
  else if e.claimedByOther stn then 0x6F
  else if allDone e then 0x23
  else if e.groups.any fun g => g.st == .done || decide (0 < g.progress) then 0x70
  else if e.groups.all fun g => g.st == .pending && g.progress == 0 then 0x2E
  else printable (Config.otherGlyph (e.groups.map fun g => (g.st.code, g.progress)))

/-- A strip row of the map: the glyph of column c in screen column 2 × c, emphasis at the map cursor (R166). In an EMPTY window
no cell has emphasis, wherever the map cursor stands (assumption 77). -/
def mapRow (p : Plan) (stn : Nat) (cur : Option (Nat × Nat)) (x : Option Strip) (r : Nat) : List Cell :=
  match x with
  | none => blankRow
  | some x =>
    (List.range Config.screenCols).map fun k =>
      if k % 2 = 0 ∧ k / 2 < p.cols ∧ r < p.rows then
        ⟨((x.units[r * p.cols + k / 2]?).map (glyph stn)).getD 0x20, cur == some (r, k / 2)⟩
      else .blank

/-- A number in decimal digits, without leading zeros. -/
def decimal (n : Nat) : List Byte := (digitsRev 5 n).reverse

/-- The word of a phase (R166). -/
def Phase.text : Phase → List Byte
  | .opened => [0x4F, 0x50, 0x45, 0x4E]
  | .moving => [0x4D, 0x4F, 0x56, 0x49, 0x4E, 0x47]
  | .fault => [0x46, 0x41, 0x55, 0x4C, 0x54]
  | .other c => Config.otherPhaseWord c

/-- What the header shows of the strip in the window (R166): its id and input slot in decimal (assumption 5), S when sampled, F
when its pull-fail flag is set; or EMPTY. -/
def stripFields : Option Strip → List (List Byte)
  | none => [[0x45, 0x4D, 0x50, 0x54, 0x59]]
  | some x => [decimal x.id, decimal x.slot, if x.sampled then [0x53] else [], if x.pullFail then [0x46] else []]

/-- The fields of the map's header row in their order (R166): the window's name, the strip, the phase. -/
def headerFields (w : Nat) (t : Table) (x : Option Strip) : List (List Byte) :=
  [0x57, byteN (0x30 + w)] :: stripFields x ++ [t.phase.text]

/-- Fields laid out in their order, field `k` behind `gap k` blanks, all of them within the columns left: `room` blanks. -/
def layFields (gap : Nat → Nat) : Nat → Nat → List (List Byte) → List Byte
  | _, _, [] => []
  | k, room, a :: r =>
    let n := min room (gap k)
    List.replicate n 0x20#8 ++ a ++ layFields gap (k + 1) (room - n) r

/-- Characters of some fields. -/
def fieldChars (l : List (List Byte)) : Nat := (l.map List.length).sum

/-- A row of fields whose columns the manual leaves free: `gap` gives the blanks before a field from its number and the
characters of all fields (assumption 5). -/
def freeRow (gap : Nat → Nat → Nat) (l : List (List Byte)) : List Byte :=
  layFields (fun k => gap k (fieldChars l)) 0 (Config.screenCols - fieldChars l) l

/-- The map's header row (R166). -/
def headerRow (w : Nat) (t : Table) (x : Option Strip) : List Cell :=
  rowOf false (freeRow Config.mapHeaderGap (headerFields w t x))

/-- Rows 1 to 5 of the strip map; blank when the station holds no table, no plan or is not seated (R166). -/
def State.mapRows (s : State) : List (List Cell) :=
  match s.seating, s.table with
  | some (p, seat), some t =>
    headerRow seat.win t (t.win? seat.win) :: (List.range 4).map (mapRow p s.stn s.ocu.mapCursor (t.win? seat.win))
  | _, _ => List.replicate 5 blankRow

/-- The name of an alarm code (section 10.3). -/
def Alarm.text : Alarm → List Byte
  | .duplicateStation => [0x44, 0x55, 0x50, 0x4C, 0x49, 0x43, 0x41, 0x54, 0x45, 0x5F, 0x53, 0x54, 0x41, 0x54, 0x49, 0x4F, 0x4E]
  | .feedConflict => [0x46, 0x45, 0x45, 0x44, 0x5F, 0x43, 0x4F, 0x4E, 0x46, 0x4C, 0x49, 0x43, 0x54]
  | .unloadConflict => [0x55, 0x4E, 0x4C, 0x4F, 0x41, 0x44, 0x5F, 0x43, 0x4F, 0x4E, 0x46, 0x4C, 0x49, 0x43, 0x54]
  | .planInvalid => [0x50, 0x4C, 0x41, 0x4E, 0x5F, 0x49, 0x4E, 0x56, 0x41, 0x4C, 0x49, 0x44]
  | .planConflict => [0x50, 0x4C, 0x41, 0x4E, 0x5F, 0x43, 0x4F, 0x4E, 0x46, 0x4C, 0x49, 0x43, 0x54]
  | .notSeated => [0x4E, 0x4F, 0x54, 0x5F, 0x53, 0x45, 0x41, 0x54, 0x45, 0x44]
  | .resync => [0x52, 0x45, 0x53, 0x59, 0x4E, 0x43]
  | .feedAbsent => [0x46, 0x45, 0x45, 0x44, 0x5F, 0x41, 0x42, 0x53, 0x45, 0x4E, 0x54]
  | .unloadAbsent => [0x55, 0x4E, 0x4C, 0x4F, 0x41, 0x44, 0x5F, 0x41, 0x42, 0x53, 0x45, 0x4E, 0x54]
  | .headHalted => [0x48, 0x45, 0x41, 0x44, 0x5F, 0x48, 0x41, 0x4C, 0x54, 0x45, 0x44]
  | .spoolOut => [0x53, 0x50, 0x4F, 0x4F, 0x4C, 0x5F, 0x4F, 0x55, 0x54]
  | .qualityHold => [0x51, 0x55, 0x41, 0x4C, 0x49, 0x54, 0x59, 0x5F, 0x48, 0x4F, 0x4C, 0x44]
  | .indexJam => [0x49, 0x4E, 0x44, 0x45, 0x58, 0x5F, 0x4A, 0x41, 0x4D]
  | .clampFault => [0x43, 0x4C, 0x41, 0x4D, 0x50, 0x5F, 0x46, 0x41, 0x55, 0x4C, 0x54]
  | .elevatorFault => [0x45, 0x4C, 0x45, 0x56, 0x41, 0x54, 0x4F, 0x52, 0x5F, 0x46, 0x41, 0x55, 0x4C, 0x54]
  | .pushFault => [0x50, 0x55, 0x53, 0x48, 0x5F, 0x46, 0x41, 0x55, 0x4C, 0x54]
  | .magInEmpty => [0x4D, 0x41, 0x47, 0x5F, 0x49, 0x4E, 0x5F, 0x45, 0x4D, 0x50, 0x54, 0x59]
  | .magOutFull => [0x4D, 0x41, 0x47, 0x5F, 0x4F, 0x55, 0x54, 0x5F, 0x46, 0x55, 0x4C, 0x4C]
  | .storeFull => [0x53, 0x54, 0x4F, 0x52, 0x45, 0x5F, 0x46, 0x55, 0x4C, 0x4C]
  | .storeFault => [0x53, 0x54, 0x4F, 0x52, 0x45, 0x5F, 0x46, 0x41, 0x55, 0x4C, 0x54]

/-- The name of an alarm entry's state (R169). -/
def AlarmSt.text : AlarmSt → List Byte
  | .raised => [0x52, 0x41, 0x49, 0x53, 0x45, 0x44]
  | .acked => [0x41, 0x43, 0x4B, 0x45, 0x44]
  | .clearedUnacked => [0x43, 0x4C, 0x45, 0x41, 0x52, 0x45, 0x44, 0x5F, 0x55, 0x4E, 0x41, 0x43, 0x4B, 0x45, 0x44]

/-- What the alarm area shows of an entry (R169): its code, its state, its index count at raise and its repeat count. -/
def alarmFields (e : AlarmEntry) : List (List Byte) := [e.code.text, e.st.text, decimal e.index, decimal e.repeats]

/-- One row of the alarm area; RAISED entries with emphasis on (R169). -/
def alarmCells : Option AlarmEntry → List Cell
  | none => blankRow
  | some e => rowOf (e.st == .raised) (freeRow Config.alarmGap (alarmFields e))

/-- The alarm area: the four newest entries, the newest first (R169). -/
def State.alarmRows (s : State) : List (List Cell) :=
  (List.range 4).map fun i => alarmCells (s.ocu.alarms.reverse[i]?)

/-- The counters row (R165). -/
def State.counterRow (s : State) : List Byte :=
  joinFields [countOr 6 (s.table.map fun t => lowSix t.loaded.toNat), countOr 6 (s.table.map fun t => lowSix t.good.toNat),
    countOr 6 (s.table.map fun t => lowSix t.reject.toNat), countOr 6 (s.table.map fun t => lowSix t.written.toNat),
    countField 5 s.rcu.lost, countField 5 s.tmu.missed, countField 3 s.ocu.textDropped, countField 3 s.ocu.ctlIgnored,
    countField 2 s.ocu.keyDropped]

/-- The screen image as drawn from the state (R165). -/
def State.render (s : State) : List (List Cell) :=
  [rowOf false s.statusRow] ++ s.mapRows ++ [rowOf false Config.legendRow] ++ s.alarmRows ++ [rowOf false s.counterRow] ++
  (List.range 8).map fun i => s.ocu.hist.getD (s.ocu.viewTop + i) blankRow

/-- The panes are redrawn, and rows that changed enter the changed-row set at its tail (R165, R168). -/
def redraw (s : State) : State :=
  let new := s.render
  let o := s.ocu
  { s with ocu := { o with
      screen := new
      changed := o.changed ++ (List.range Config.screenRows).filter fun r =>
        !o.changed.contains r && o.screen.getD r [] != new.getD r [] } }

/-! ## The end of every command -/

/-- A command has been taken: the screen is redrawn and the model's counter for free values moves on. -/
def finish (s : State) : State :=
  let s1 := redraw s
  { s1 with free := s1.free + 1 }

/-- After an event that began in state `old`: sequencer and selection, the restart, the magazine alarms, the screen. -/
def conclude (always : Bool) (old s : State) : State := finish (judgeMags (restProgress (settle always old s)))

end Sys2Proof.Machine
end

