-- ==== Sys2Proof/Machine/Console.lean ====
section
/-! DEFINITION. The Operator Console Unit's own operations: the message history and its interpreter (R172 to R175), keys
(R167, R170, R176, R177), the refresher (R168). -/

namespace Sys2Proof.Machine

/-! ## The interpreter (R172 to R175) -/

/-- The byte at the head of the text queue leaves it; the text-ready flag sets at 24 bytes or fewer (R172). -/
def Ocu.dropByte (o : Ocu) : Ocu :=
  let q := o.textQ.drop 1
  { o with textQ := q, textReady := o.textReady || decide (q.length ≤ 24) }

/-- After a byte the view shows the cursor's line (R175). -/
def Ocu.follow (o : Ocu) : Ocu := { o with viewTop := o.line - 7 }

/-- A new line (R173). -/
def Ocu.newLine (o : Ocu) : Ocu :=
  if o.fullMark then o
  else if o.line < 31 then { o with line := o.line + 1, col := 0 }
  else if o.scroll then { o with hist := o.hist.drop 1 ++ [blankRow], col := 0 }
  else { o with fullMark := true }

/-- A printable byte written at the cursor (R173). -/
def Ocu.print (b : Byte) (o : Ocu) : Ocu :=
  if o.fullMark || decide (63 < o.col) then o
  else
    let o1 := { o with hist := o.hist.modify o.line (fun l => l.set o.col ⟨b, o.emph⟩), col := o.col + 1 }
    if o1.col = 64 ∧ o1.wrap = true then o1.newLine else o1

/-- Home (R174). -/
def Ocu.home (o : Ocu) : Ocu := { o with line := 0, col := 0, fullMark := false }

/-- Clear history (R174). -/
def Ocu.clearHist (o : Ocu) : Ocu :=
  { o.home with hist := List.replicate Config.historyLines blankRow, viewTop := 0 }

/-- Clear to end of line (R174). -/
def Ocu.clearLine (o : Ocu) : Ocu :=
  { o with hist := o.hist.modify o.line fun l => l.take o.col ++ List.replicate (Config.screenCols - o.col) .blank }

/-- Backspace (R174). -/
def Ocu.back (o : Ocu) : Ocu := { o with col := o.col - 1 }

/-- An ignored control byte (R174). -/
def Ocu.countIgnored (o : Ocu) : Ocu := { o with ctlIgnored := satAdd 65535 o.ctlIgnored 1 }

/-- The byte n after 0x05 (R174). -/
def Ocu.setColumn (n : Byte) (o : Ocu) : Ocu :=
  if n.toNat ≤ 63 then { o with col := n.toNat, colPending := false } else { o with colPending := false }.countIgnored

/-- A byte with no special action: 0x00 to 0x1F outside the table, and 0x7F to 0xFF (R174). -/
def isIgnored (b : Byte) : Bool :=
  decide (0x7F ≤ b.toNat) || (decide (b.toNat < 0x20) && !([1, 2, 3, 4, 5, 6, 7, 8, 0x0E, 0x0F, 0x10, 0x11].contains b.toNat))

/-- A printable byte (R173). -/
def isPrintable (b : Byte) : Bool := decide (0x20 ≤ b.toNat) && decide (b.toNat ≤ 0x7E)

/-- The interpreter takes the byte at the head of the queue when it satisfies a test and no column byte is pending, and acts
on it; otherwise nothing happens (R172 to R175). -/
def Ocu.interpret (is : Byte → Bool) (act : Byte → Ocu → Ocu) (o : Ocu) : Ocu :=
  match o.textQ with
  | [] => o
  | b :: _ => if !o.colPending && is b then (act b o.dropByte).follow else o

/-- The interpreter takes 0x05 with its n, or waits for n (R174). -/
def Ocu.takeColumn (o : Ocu) : Ocu :=
  match o.colPending, o.textQ with
  | true, n :: _ => (o.dropByte.setColumn n).follow
  | false, 0x05#8 :: n :: _ => (o.dropByte.dropByte.setColumn n).follow
  | false, [0x05#8] => { o.dropByte with colPending := true }.follow
  | _, _ => o

/-! ## Keys (R176, R177, R184) -/

/-- Codes that name a key (R184). -/
def isKey (c : Byte) : Bool := decide (1 ≤ c.toNat) && decide (c.toNat ≤ 0x10)

/-- A key code enters the key queue, or is dropped and counted (R176). -/
def Ocu.press (c : Byte) (o : Ocu) : Ocu :=
  if isKey c && decide (o.keyQ.length < Config.keyPlaces) then { o with keyQ := o.keyQ ++ [c] }
  else { o with keyDropped := satAdd 255 o.keyDropped 1 }

/-- The OCU takes a key from the head of its queue and hands it: the state after, or the same state when another key or none
stands there. -/
def takeKey (c : Byte) (hand : State → State) (s : State) : State :=
  match s.ocu.keyQ with
  | [] => s
  | k :: r => if k = c then hand { s with ocu := { s.ocu with keyQ := r } } else s

/-- ACK (R170). -/
def Ocu.ack (o : Ocu) : Ocu :=
  match o.alarms.find? (fun e => e.st != .acked) with
  | none => o
  | some e =>
    if e.st = .raised then
      { o with alarms := mapFirst (fun e => e.st != .acked) (fun e => { e with st := .acked }) o.alarms }
    else { o with alarms := dropFirst (fun e => e.st != .acked) o.alarms }

/-- An arrow key (R167). -/
def moveCursor (d : Arrow) (s : State) : State :=
  match s.ocu.mapCursor, s.su.held with
  | some (r, c), some p =>
    let dest := match d with
      | .up => (r - 1, c)
      | .down => (if r + 1 < p.rows then r + 1 else r, c)
      | .left => (r, c - 1)
      | .right => (r, if c + 1 < p.cols then c + 1 else c)
    { s with ocu := { s.ocu with mapCursor := some dest } }
  | _, _ => s

/-- The code of an arrow key (R184). -/
def arrowCode : Arrow → Byte
  | .up => 0x09 | .down => 0x0A | .left => 0x0B | .right => 0x0C

/-- CLEAR on the index (R84). -/
def recoverIndex (s : State) : State :=
  match s.table with
  | none => s
  | some t =>
    if s.actsFeed && t.phase == .fault && s.tmu.beam == .home then
      place .wsc (if s.tmu.transfer then shiftNote t else .indexDone t.index.toNat 0) s
    else s

/-- CLEAR is handed to the BSQ, the TMU and the WSC together (R177). -/
def handClear (s : State) : State := recoverIndex (clearClamp (takeClear .halted s))

/-- HOLD_REL is handed when QUALITY_HOLD is listed ACKED, or is not listed while its condition stands (R121, R177). -/
def State.holdRelHanded (s : State) : Bool :=
  match s.ocu.alarms.find? (·.code == .qualityHold) with
  | some e => e.st == .acked
  | none => !s.heldClasses.isEmpty

/-- A HOLD_OFF for a class, unless one is in the queue or waiting to enter it (R72, R121). -/
def placeHoldOff (s : State) (c : Nat) : State :=
  if s.lnk.hasNote (· == .holdOff c) then s else place .wsc (.holdOff c) s

/-- HOLD_REL (R121); the classes held are released in ascending order (R72, assumption 52). -/
def handHoldRel (s : State) : State :=
  if s.holdRelHanded && s.working then s.heldClasses.foldl placeHoldOff s else s

/-- SKIP with the unit at the map cursor (R71, R167, R177). -/
def handSkip (s : State) : State :=
  match s.ocu.mapCursor, s.seating with
  | some (r, c), some (p, seat) => requestSkip seat.win (r * p.cols + c) s
  | _, _ => s

/-! ## The refresher (R168) -/

/-- The 66 characters of a row. -/
def rowChars (r : Nat) (cells : List Cell) : List Byte :=
  byteN (0xC0 + r) :: cells.map (fun c => if c.em then c.ch + 0x80#8 else c.ch) ++ [0x0D#8]

/-- The row at the head of the changed-row set is sent, its cells read at this moment (R168). -/
def sendRow (s : State) : State :=
  let s1 := redraw s
  match s1.ocu.portRow, s1.ocu.changed with
  | none, r :: rest =>
    { s1 with ocu := { s1.ocu with changed := rest, portRow := some (r, rowChars r (s1.ocu.screen.getD r [])) } }
  | _, _ => s

/-- The port becomes free (R168). -/
def rowSent (s : State) : State := { s with ocu := { s.ocu with portRow := none } }

end Sys2Proof.Machine
end

