-- ==== Sys2Proof/Machine/Store.lean ====
section
/-! DEFINITION. The flash port (R148, R150, R152, R153, R157, R160): the choice of the next operation and the ends of
operations, the mount (R155), and loss of power during an operation. -/

namespace Sys2Proof.Machine

/-! ## Starting an operation (R148) -/

/-- An operation is started. -/
def Rcu.start (o : FlashOp) (k : PortKind) (r : Rcu) : Rcu := { r with port := some o, lastKind := k }

/-- The next header program: the header of a block being opened first, then in the order owed (R148); in the rest step of a
restart only the header of a block just erased (R152). -/
def Rcu.nextOwed (resting : Bool) (r : Rcu) : Option Owed :=
  let erased := fun (o : Owed) => match o with | .erased _ => true | _ => false
  let opening := fun (o : Owed) => match o with | .opening _ => true | _ => false
  if resting then r.owed.find? erased
  else match r.owed.find? opening with
    | some o => some o
    | none => r.owed[0]?

/-- The ERASING block whose erase is due: the lowest-numbered (assumption 27). -/
def Rcu.nextErase (r : Rcu) : Option Nat := r.findBlock fun b => b.st == .erasing .due

/-- The erase that goes before programs and reads: one that the reserve of two FREE blocks still lacks (R148, R151,
assumption 27). -/
def Rcu.urgentErase (r : Rcu) : Option Nat := if r.freeCount < Config.reserveBlocks then r.nextErase else none

/-- An erase begins: the block's records leave the readable ranges (R152). -/
def Rcu.beginErase (i : Nat) (r : Rcu) : Rcu :=
  (r.setBlock i fun b => { b with st := .erasing .running, seq := none, first := none, written := 0, lim := none }).start
    (.erase i) .other

/-- The OPEN block is closed. -/
def Block.close (b : Block) : Block := if b.st = .opened then { b with st := .full } else b

/-- The readable numbers of a block that holds records end below the next number, which the block opened after it takes as
its first (R149, R153). -/
def Block.bound (next : Nat) (b : Block) : Block :=
  if b.seq.isSome && b.lim.isNone then { b with lim := some (next - 1) } else b

/-- The oldest retraction stands behind no record: it is the next program (R148, R157). -/
def Rcu.retractFirst (r : Rcu) : Bool := (r.retr.head?.map fun x => x.behind == 0).getD false

/-- The block to open: the record at the head of the write queue is the next program and no OPEN block has a slot for it
(R150). -/
def Rcu.blockDue (r : Rcu) : Option Nat :=
  if r.writes && !r.retractFirst && !r.queue.isEmpty && r.newest != some Config.lastNumber && r.openBlock.isNone then
    r.leastBlock (·.st == .free) (·.erases)
  else none

/-- A block is opened (R150): the OPEN block whose last slot is written becomes FULL, the block becomes OPEN with the next
sequence number and first number, and its header program is owed. -/
def Rcu.openNext (i : Nat) (r : Rcu) : Rcu :=
  let seq := ((r.blocks.filterMap (·.seq)).max?).getD 0 + 1
  let next := r.newest.getD 0 + 1
  let closed := { r with blocks := r.blocks.map fun b => (Block.bound next b).close, owed := r.owed ++ [Owed.opening i] }
  closed.setBlock i fun b =>
    { b with st := .opened, seq := some seq, first := some next, written := 0, lim := none }

/-- The block that the waiting record needs is opened, when there is one, before any other header is owed to the port (R148,
R150, assumption 53). -/
def Rcu.openDue (r : Rcu) : Rcu := (r.blockDue.map fun i => r.openNext i).getD r

/-- The record at the head of the queue goes into the OPEN block's next slot; none when it cannot (R147, R150). -/
def Rcu.startRecord (r : Rcu) : Option Rcu :=
  if r.queue.isEmpty || r.newest == some Config.lastNumber then none
  else r.openBlock.map fun i =>
    let num := r.newest.getD 0 + 1
    let slot := ((r.blocks[i]?).map (·.written)).getD 0
    { r with newest := some num }.start (.record i slot num r.newest) .program

/-- The oldest retraction or the record at the head of the queue, whichever was taken first (R148, R157). With `held`, an
answer of the RCU waits for room in the note queue, and its next retraction waits with it (R19). A retraction leaves the list
when the port takes it (assumption 63). -/
def Rcu.startProgram (held : Bool) (r : Rcu) : Option Rcu :=
  match r.retr with
  | x :: rest =>
    if x.behind = 0 then (if held then none else some ({ r with retr := rest }.start (.mark x true) .program))
    else r.startRecord
  | [] => r.startRecord

/-- The read the scan asks for (R160). -/
def Rcu.startRead (r : Rcu) : Option Rcu := r.wantsRead.map fun x => r.start (.read x.1 x.2 true) .read

/-- A program or a read, in turn (R148). -/
def Rcu.startThird (held : Bool) (r : Rcu) : Option Rcu :=
  let prog := if r.writes then r.startProgram held else none
  if r.lastKind = .program then r.startRead.orElse fun _ => prog
  else prog.orElse fun _ => r.startRead

/-- The erase, program or read of a port that owes no header (R148): an erase the reserve lacks, a program or a read in
turn, and last the erase of a block found ERASING by the mount beyond the reserve (R155). -/
def Rcu.startWork (held : Bool) (r : Rcu) : Rcu :=
  match (if r.writes then r.urgentErase else none) with
  | some i => r.beginErase i
  | none =>
    match r.startThird held with
    | some r' => r'
    | none => ((if r.writes then r.nextErase else none).map fun i => r.beginErase i).getD r

/-- An owed header program is started, when there is one. -/
def Rcu.startOwed (resting : Bool) (r : Rcu) : Option Rcu :=
  if r.writes then (r.nextOwed resting).map fun o => { r with owed := r.owed.erase o }.start (.header o) .other else none

/-- The next operation of a free port (R148): an owed header, that of a block being opened first, then `startWork`. A LOCKED
store is only read (R156); in MOUNTING and FAULT nothing starts (R153). -/
def Rcu.startOp (resting held : Bool) (r : Rcu) : Rcu :=
  if r.port.isSome || r.store == .mounting || r.store == .fault then r
  else if resting then (r.startOwed true).getD r
  else
    let r := (if r.scanning then r.checkCursor else r).openDue
    (r.startOwed false).getD (r.startWork held)

/-! ## What operations program -/

/-- The record an operation programs: the head of the write queue under its number (R147). -/
def State.recordBytes (s : State) (num : Nat) : List Byte :=
  match s.rcu.queue with
  | [] => []
  | b :: _ => b.encode s.stn num

/-- The offset in a block and the bytes of a header program (R149, R150, R152, R153, R182). -/
def Rcu.headerBytes (r : Rcu) : Owed → Nat × Nat × List Byte
  | .opening i =>
    (i, 5, le32 (((r.blocks[i]?).bind (·.seq)).getD 0) ++ le32 (((r.blocks[i]?).bind (·.first)).getD 0))
  | .erased i => (i, 0, le32 (((r.blocks[i]?).map (·.erases)).getD 0))
  | .badMark i => (i, 4, [0x00])

/-- The flash after a header program. -/
def State.programHeader (s : State) (o : Owed) : List Host.Cell :=
  let x := s.rcu.headerBytes o
  flashProgram s.flash (headerAddr x.1 + x.2.1) x.2.2

/-- The flash after a header program that failed or was cut short. -/
def State.spoilHeader (s : State) (o : Owed) : List Host.Cell :=
  let x := s.rcu.headerBytes o
  flashProgramFail s.free s.flash (headerAddr x.1 + x.2.1) x.2.2

/-- The address of the mark of a readable number (R182). -/
def Rcu.markAddr (num : Nat) (r : Rcu) : Option Nat := (r.locate num).map fun x => slotAddr x.1 x.2 + 63

/-- The port becomes free. -/
def Rcu.free (r : Rcu) : Rcu := { r with port := none }

/-! ## The ends of operations -/

/-- One more slot of a block is written; with its last slot the block is FULL (R149, R150). -/
def Block.fill (b : Block) : Block :=
  { b with written := b.written + 1
           st := if b.st = .opened ∧ Config.blockSlots ≤ b.written + 1 then .full else b.st }

/-- A record program has completed (R150). -/
def recordDone (s : State) : State :=
  match s.rcu.port with
  | some (.record i slot num _) =>
    let r := s.rcu.free
    let r1 := { r.setBlock i Block.fill with fails := 0 }
    let r2 := match r1.queue with
      | [] => r1
      | b :: rest => Rcu.freeEntry b { r1.advance 1 with queue := rest }
    { s with flash := flashProgram s.flash (slotAddr i slot) (s.recordBytes num), rcu := r2.fill }
  | _ => s

/-- A record program has failed (R153). In a restart the record kept for it is discarded too (R38). -/
def recordFailed (s : State) : State :=
  match s.rcu.port with
  | some (.record i slot num before) =>
    let r := (s.rcu.free.goBad i)
    let s1 := countFailure { s with
      flash := flashProgramFail s.free s.flash (slotAddr i slot) (s.recordBytes num)
      rcu := { r with newest := before } }
    if s1.su.run = .resting then { s1 with rcu := Rcu.discard s1.rcu.queue { s1.rcu with queue := [] } } else s1
  | _ => s

/-- A header program has completed (R150, R152). -/
def headerDone (s : State) : State :=
  match s.rcu.port with
  | some (.header (.opening i)) => { s with flash := s.programHeader (.opening i), rcu := s.rcu.free }
  | some (.header (.erased i)) =>
    { s with flash := s.programHeader (.erased i)
             rcu := s.rcu.free.setBlock i fun b => { b with st := .free, written := 0 } }
  | _ => s

/-- The header program of an opened or erased block has failed (R153). -/
def headerFailed (s : State) : State :=
  match s.rcu.port with
  | some (.header (.opening i)) =>
    countFailure { s with flash := s.spoilHeader (.opening i), rcu := s.rcu.free.goBad i }
  | some (.header (.erased i)) =>
    countFailure { s with flash := s.spoilHeader (.erased i), rcu := s.rcu.free.goBad i }
  | _ => s

/-- An erase has completed: the erase count rises and its header program is owed (R152). -/
def eraseFinished (s : State) : State :=
  match s.rcu.port with
  | some (.erase i) =>
    let r := s.rcu.free.setBlock i fun b => { b with erases := b.erases + 1, st := .erasing .header }
    { s with flash := flashErase s.flash i, rcu := { r with owed := r.owed ++ [.erased i] } }
  | _ => s

/-- An erase has failed: the block becomes BAD (R153). -/
def eraseFailed (s : State) : State :=
  match s.rcu.port with
  | some (.erase i) => { s with flash := flashEraseFail s.free s.flash i, rcu := s.rcu.free.goBad i }
  | _ => s

/-- A bad mark program has ended: completed or failed, the block stays BAD (R153). -/
def badMarkEnded (completed : Bool) (s : State) : State :=
  match s.rcu.port with
  | some (.header (.badMark i)) =>
    { s with flash := if completed then s.programHeader (.badMark i) else s.spoilHeader (.badMark i), rcu := s.rcu.free }
  | _ => s

/-- The flash and the ANSWER code of a retraction carried out, `readBack` being the mark read back after a program (R157,
R164). -/
def State.retractResult (s : State) (num : Nat) (readBack : Byte) : List Host.Cell × Nat :=
  match s.rcu.markAddr num with
  | none => (s.flash, Answer.notFound)
  | some a =>
    if flashRead s.flash a ≠ 0xFF#8 then (s.flash, Answer.already)
    else (flashSet s.flash a readBack, if readBack = 0xFF#8 then Answer.refused else Answer.ok)

/-- A retraction has been carried out and is answered (R157, R164). -/
def retracted (readBack : Byte) (s : State) : State :=
  match s.rcu.port with
  | some (.mark x live) =>
    let res := s.retractResult x.number readBack
    let s1 := { s with flash := res.1, rcu := s.rcu.free }
    if live then place .rcu (.answer x.requester x.tag res.2) s1 else s1
  | _ => s

/-- A record read has completed: it is judged while its fetch is SCANNING (R160, R163). -/
def recordRead (s : State) : State :=
  match s.rcu.port with
  | some (.read i slot live) =>
    let r := s.rcu.free
    let wanted := live && (r.fetch.map fun f => !f.closing).getD false
    { s with rcu := if wanted then r.judgeRead (flashBytes s.flash (slotAddr i slot) 64) else r }
  | _ => s

/-! ## Mount and loss of power -/

/-- The mount ends (R27, R154, R155, R156). A record queued meanwhile stays in the write queue of a store that is FAULT or
LOCKED then (assumption 61). -/
def endMount (answered : Bool) (s : State) : State :=
  if s.rcu.store = .mounting then
    let locked := s.su.straps.storeLock
    let r := if answered then mountTable locked s.flash s.rcu else s.rcu
    let s1 := { s with rcu := { r with store := mountStore locked answered }, su := { s.su with mountEnded := true } }
    storeSettle (if s1.rcu.store = .fault then raise .storeFault s1 else s1)
  else s

/-- The flash when power is lost during the operation under way: its bytes are left as a failed operation leaves them. -/
def State.cutFlash (s : State) : List Host.Cell :=
  match s.rcu.port with
  | some (.record i slot num _) => flashProgramFail s.free s.flash (slotAddr i slot) (s.recordBytes num)
  | some (.header o) => s.spoilHeader o
  | some (.mark x _) =>
    match s.rcu.markAddr x.number with
    | none => s.flash
    | some a => flashProgramFail s.free s.flash a [0x00]
  | some (.erase i) => flashEraseFail s.free s.flash i
  | some (.read ..) | none => s.flash

end Sys2Proof.Machine
end

