-- ==== Sys2Proof/Machine/ExecLink.lean ====
section
/-! DEFINITION. The meanings of the start-up and link commands: power, self-check, mount, frames, slots, sending, and the
thresholds reached at a slot's end. -/

namespace Sys2Proof.Machine

/-- The answer of a command. -/
abbrev Answered : Type := Host.Outcome State Fault Refusal

/-- What the OCU and the RCU look at after the end of a slot (R171, R151); nothing once a restart has begun. -/
def afterSlot (s : State) : State := if s.su.run = .running then storeSettle (judgeAbsent s) else s

/-! ## Power and start-up -/

/-- POWER_ON (R24, R27): straps sampled, every block in its power-on state, self-check and mount begun. An operation under way
on the flash is cut short (assumption 7). -/
def execPowerOn (x : Straps) (lv : Levels) (s : State) : Answered :=
  .next (finish (.poweredOn x lv s.cutFlash s.free s.pending))

/-- SELF_CHECK_END (R25, R37). -/
def execSelfCheckEnd (failed : List CheckItem) (s : State) : Answered := .next (conclude false s (endSelfCheck failed s))

/-- STORE_MOUNT_END (R27, R155, R156). -/
def execStoreMountEnd (answered : Bool) (s : State) : Answered := .next (conclude false s (endMount answered s))

/-- The quiet timer expires in LISTEN (R14). -/
def quietExpired (s : State) : State :=
  if s.handles && s.lnk.st == .listen && !s.lnk.silenced && s.lnk.quiet == .running then
    if s.lnk.line = .idle then sendCold s else { s with lnk := { s.lnk with quiet := .due } }
  else s

/-- QUIET_TIMER_EXPIRY (R14). -/
def execQuietTimerExpiry (s : State) : Answered := .next (conclude false s (quietExpired s))

/-! ## Ends of frames -/

/-- FRAME_BEGIN (R2): the first character on an idle line. -/
def execFrameBegin (s : State) : Answered :=
  .next (conclude false s (if s.lnk.line = .idle then { s with lnk := { s.lnk with line := .hearing } } else s))

/-- An unreadable frame has ended on the line (R8, R16). -/
def unreadableEnd (s : State) : State := afterSlot (unreadableFrame (s.lnk.line == .fragment) (idleLine s))

/-- The state after the end of a frame with its end marker (R7, R23): read back whole when it is the frame this station
sends, and unreadable when the receive checker refuses it (R6). -/
def frameEnd (chars : List Byte) (s : State) : State :=
  if s.handles then
    match s.lnk.line with
    | .sending own =>
      if chars = own then
        match checkFrame chars with
        | some f => afterSlot (readableFrame f true { s with lnk := s.lnk.readBack })
        | none => unreadableEnd s
      else s
    | _ =>
      match checkFrame chars with
      | some f => afterSlot (readableFrame f false (idleLine s))
      | none => unreadableEnd s
  else idleLine s

/-- A readable frame is handled at this end of a frame (R6, R7): not while frames are not handled, and not while other
characters than these are being sent. A selection follows (R66). -/
def State.handlesFrame (s : State) (chars : List Byte) : Bool :=
  s.handles && (checkFrame chars).isSome && (match s.lnk.line with | .sending own => chars == own | _ => true)

/-- READABLE_FRAME_END (R7). -/
def execReadableFrameEnd (chars : List Byte) (lv : Levels) (s : State) : Answered :=
  .next (conclude (s.handlesFrame chars) s (frameEnd chars (sense lv s)))

/-- The end of a frame that is unreadable whatever its characters (R2, R8); not while this station sends. -/
def badFrameEnd (s : State) : State :=
  if s.handles then
    match s.lnk.line with
    | .sending _ => s
    | _ => unreadableEnd s
  else idleLine s

/-- UNREADABLE_FRAME_END (R8). -/
def execUnreadableFrameEnd (lv : Levels) (s : State) : Answered := .next (conclude false s (badFrameEnd (sense lv s)))

/-- FRAME_IDLE_END (R2): only a frame in progress, or this station's own fragment, can end so. -/
def execFrameIdleEnd (lv : Levels) (s : State) : Answered :=
  .next (conclude false s (if s.lnk.line = .idle then sense lv s else badFrameEnd (sense lv s)))

/-! ## Silent slots and the thresholds at their end -/

/-- A slot can end in silence: the line is idle and the slots are followed (R9). -/
def State.quietSlot (s : State) : Bool := s.handles && s.lnk.line == .idle && s.lnk.follows

/-- The current slot ends in silence (R9). -/
def slotEnds (lv : Levels) (s : State) : State := afterSlot (silentSlot (sense lv s))

/-- SLOT_SILENCE (R9, R13). -/
def execSlotSilence (lv : Levels) (s : State) : Answered :=
  .next (conclude false s (if s.quietSlot then slotEnds lv s else sense lv s))

/-- The third silent slot of a present station is about to end (R13). -/
def State.absenceDue (s : State) : Bool :=
  s.quietSlot && s.lnk.slot != s.stn && (s.lnk.entry s.lnk.slot).present &&
  decide (Config.absentSlots ≤ (s.lnk.entry s.lnk.slot).silent + 1)

/-- STATION_ABSENT (R13, R60): the silent slot end at which a station becomes absent. -/
def execStationAbsent (lv : Levels) (s : State) : Answered :=
  .next (conclude false s (if s.absenceDue then slotEnds lv s else sense lv s))

/-- The third own slot without a frame read back whole is about to end (R18). -/
def State.transmitFailureDue (s : State) : Bool :=
  s.quietSlot && s.lnk.slot == s.stn && s.lnk.okRound != some s.lnk.round &&
  (s.lnk.st == .joining || s.lnk.st == .active || s.lnk.st == .resync) && decide (Config.sendFailures ≤ s.lnk.txFail + 1)

/-- TRANSMIT_FAILURE (R18): the silent slot end at which the failure count reaches 3. -/
def execTransmitFailure (lv : Levels) (s : State) : Answered :=
  .next (conclude false s (if s.transmitFailureDue then slotEnds lv s else sense lv s))

/-- The join watch is about to reach 8 (R33). -/
def State.freshStartDue (s : State) : Bool := s.quietSlot && s.su.joinWatch == some (Config.joinSlots - 1)

/-- FRESH_START (R33): the silent slot end at which the join watch reaches 8. -/
def execFreshStart (lv : Levels) (s : State) : Answered :=
  .next (conclude false s (if s.freshStartDue then slotEnds lv s else sense lv s))

/-- The RESYNC watch is about to reach 24 (R59). -/
def State.resyncDue (s : State) : Bool :=
  s.quietSlot && s.lnk.st == .resync && s.ctu.watch == some (Config.resyncSlots - 1)

/-- RESYNC_WATCH_EXPIRY (R59): the silent slot end at which the RESYNC watch reaches 24. -/
def execResyncWatchExpiry (lv : Levels) (s : State) : Answered :=
  .next (conclude false s (if s.resyncDue then slotEnds lv s else sense lv s))

/-! ## Sending -/

/-- The station's own slot has begun and it may send in it: not twice in a round, of which the last one it sent in is remembered
(R11, assumption 71). -/
def State.maySend (s : State) : Bool :=
  s.handles && s.lnk.st != .listen && s.lnk.slot == s.stn && s.lnk.line == .idle && !s.lnk.noSend &&
  s.lnk.sentRound != some s.lnk.round

/-- FRAME_BUILD (R11, R20 to R22). -/
def execFrameBuild (s : State) : Answered := .next (conclude false s (if s.maySend then buildFrame s else s))

/-- The notes of a frame that is not sent stay in their queues (R20, R23). -/
def unsend (s : State) : State := { s with lnk := s.lnk.unsent, rcu := s.rcu.outUnsent }

/-- The own slot goes unsent: a frame just built is taken back from the line, and none has been sent in the round (R11). -/
def Lnk.takeBack (l : Lnk) : Lnk :=
  match l.line with
  | .sending _ => { l with noSend := true, line := .idle, sentRound := none }
  | _ => { l with noSend := true }

/-- The sending deadline of the own slot passes, or a character is heard first (R11). A frame taken back was not sent in its
round. -/
def missDeadline (s : State) : State :=
  let due := match s.lnk.line with
    | .sending _ => !s.lnk.cold
    | .fragment => false
    | _ => s.lnk.sentRound != some s.lnk.round
  if s.handles && s.lnk.st != .listen && s.lnk.slot == s.stn && due then
    { unsend s with lnk := s.lnk.unsent.takeBack }
  else s

/-- SEND_DEADLINE_MISSED (R11, R23). -/
def execSendDeadlineMissed (s : State) : Answered := .next (conclude false s (missDeadline s))

/-- A mismatch in the cold-start frame (R16): LISTEN again with the quiet timer started, and what every entry to LISTEN ends
is ended: the table (R39), the WSC's work (R62), the note queue, the fetch and the retractions (R158, R164). The fragment stays
on the line. -/
def coldMismatch (s : State) : State :=
  let s1 := endAbsent (clearWsc (discardTable s))
  { s1 with lnk := { s1.lnk.toListen false with line := .fragment }
            rcu := s1.rcu.dropFetch
            su := { s1.su with joinWatch := none } }

/-- The first character read back that differs (R16, R23): sending stops. -/
def mismatch (s : State) : State :=
  match s.lnk.line with
  | .sending _ =>
    let s1 := unsend { s with lnk := { s.lnk with line := .fragment } }
    if s.lnk.cold then coldMismatch s1 else s1
  | _ => s

/-- READ_BACK_MISMATCH (R16). -/
def execReadBackMismatch (s : State) : Answered := .next (conclude false s (mismatch s))

/-! ## Timers of the WSC -/

/-- The takt limit runs out (R74). -/
def taktExpired (s : State) : State :=
  if s.wsc.takt = .running then closeClaims (fun _ => true) { s with wsc := { s.wsc with takt := .expired } } else s

/-- TAKT_EXPIRY (R73, R74). -/
def execTaktExpiry (s : State) : Answered := .next (conclude false s (taktExpired s))

/-- The clamp wait runs out (R80). -/
def clampWaitExpired (s : State) : State :=
  if s.wsc.clampWait then place .wsc (faultNote 1) { s with wsc := { s.wsc with clampWait := false } } else s

/-- CLAMP_WAIT_EXPIRY (R80). -/
def execClampWaitExpiry (s : State) : Answered := .next (conclude false s (clampWaitExpired s))

end Sys2Proof.Machine
end

