-- ==== Sys2Proof/Machine/ExecHead.lean ====
section
/-! DEFINITION. The meanings of the head port commands (chapter 5). -/

namespace Sys2Proof.Machine

/-- HEAD_COMPLETION (R87, R89). -/
def execHeadCompletion (tag : Byte) (c : Completion) (s : State) : Answered := .next (conclude false s (headAnswer tag c s))

/-- HEAD_TIMEOUT (R89). -/
def execHeadTimeout (s : State) : Answered := .next (conclude false s (headExpired s))

/-- An alert arrives (R88): held while a command is outstanding, in FINISHING, HALTED and SPOOL_OUT too
(assumption 22). -/
def headAlerted (a : AlertKind) (s : State) : State :=
  if s.bsq.out.isSome then { s with bsq := { s.bsq with alert := some a } } else actAlert a s

/-- HEAD_ALERT (R88). -/
def execHeadAlert (a : AlertKind) (s : State) : Answered := .next (conclude false s (headAlerted a s))

end Sys2Proof.Machine
end

