-- ==== Sys2Proof/Machine/ExecKeys.lean ====
section
/-! DEFINITION. The meanings of the keypad commands (R176, R177). A key command takes its key from the head of the key
queue; nothing happens when another key or none stands there (assumption 33). -/

namespace Sys2Proof.Machine

/-- KEY_PRESS (R176): dropped and not counted while a self-check or the restart sequence runs. -/
def execKeyPress (code : Byte) (s : State) : Answered :=
  .next (conclude false s (if s.handles then { s with ocu := s.ocu.press code } else s))

/-- KEY_ACK (R170). -/
def execKeyAck (s : State) : Answered :=
  .next (conclude false s (takeKey 0x01 (fun s => { s with ocu := s.ocu.ack }) s))

/-- KEY_PAUSE (R101). -/
def execKeyPause (s : State) : Answered := .next (conclude false s (takeKey 0x02 takePause s))

/-- KEY_RESUME (R101). -/
def execKeyResume (s : State) : Answered := .next (conclude false s (takeKey 0x03 takeResume s))

/-- KEY_CLEAR (R84, R99, R126, R177). -/
def execKeyClear (lv : Levels) (s : State) : Answered := .next (conclude false s (takeKey 0x04 handClear (sense lv s)))

/-- KEY_SPOOL (R99). -/
def execKeySpool (s : State) : Answered := .next (conclude false s (takeKey 0x05 (takeClear .spoolOut) s))

/-- KEY_HOLD_REL (R121). -/
def execKeyHoldRel (s : State) : Answered := .next (conclude false s (takeKey 0x06 handHoldRel s))

/-- KEY_SKIP (R71). -/
def execKeySkip (s : State) : Answered := .next (conclude false s (takeKey 0x07 handSkip s))

/-- KEY_ARROW (R167). -/
def execKeyArrow (d : Arrow) (s : State) : Answered := .next (conclude false s (takeKey (arrowCode d) (moveCursor d) s))

/-- KEY_SEATED (R138). -/
def execKeySeated (s : State) : Answered := .next (conclude false s (takeKey 0x0D takeSeated s))

/-- KEY_REMOVED (R138, R139). -/
def execKeyRemoved (s : State) : Answered := .next (conclude false s (takeKey 0x0E takeRemoved s))

/-- The view moves up by one, not below 0. -/
def viewUp (s : State) : State := { s with ocu := { s.ocu with viewTop := s.ocu.viewTop - 1 } }

/-- KEY_MSG_UP (R175). -/
def execKeyMsgUp (s : State) : Answered := .next (conclude false s (takeKey 0x0F viewUp s))

/-- The view moves down by one, not past 24. -/
def viewDown (s : State) : State :=
  { s with ocu := { s.ocu with viewTop := if s.ocu.viewTop < 24 then s.ocu.viewTop + 1 else s.ocu.viewTop } }

/-- KEY_MSG_DOWN (R175). -/
def execKeyMsgDown (s : State) : Answered := .next (conclude false s (takeKey 0x10 viewDown s))

/-- KEY_MSG_CLR (R175). -/
def execKeyMsgClr (s : State) : Answered :=
  .next (conclude false s (takeKey 0x08 (fun s => { s with ocu := s.ocu.clearHist }) s))

end Sys2Proof.Machine
end

