-- ==== Sys2Proof/Machine/ExecText.lean ====
section
/-! DEFINITION. The meanings of the interpreter's bytes (R173, R174) and of the refresher (R168). A byte's command acts on
the byte at the head of the text queue; nothing happens when another byte or none stands there (assumption 33). -/

namespace Sys2Proof.Machine

/-- The interpreter takes one byte of a kind. -/
def takeByte (is : Byte → Bool) (act : Byte → Ocu → Ocu) (s : State) : State :=
  { s with ocu := s.ocu.interpret is act }

/-- PRINTABLE_BYTE (R173). -/
def execPrintableByte (s : State) : Answered := .next (conclude false s (takeByte isPrintable Ocu.print s))

/-- NEW_LINE (R173). -/
def execNewLine (s : State) : Answered := .next (conclude false s (takeByte (· == 0x03) (fun _ o => o.newLine) s))

/-- HOME (R174). -/
def execHome (s : State) : Answered := .next (conclude false s (takeByte (· == 0x01) (fun _ o => o.home) s))

/-- CLEAR_HISTORY (R174). -/
def execClearHistory (s : State) : Answered := .next (conclude false s (takeByte (· == 0x02) (fun _ o => o.clearHist) s))

/-- CLEAR_TO_END_OF_LINE (R174). -/
def execClearToEndOfLine (s : State) : Answered :=
  .next (conclude false s (takeByte (· == 0x04) (fun _ o => o.clearLine) s))

/-- COLUMN (R174). -/
def execColumn (s : State) : Answered := .next (conclude false s { s with ocu := s.ocu.takeColumn })

/-- EMPHASIS_ON (R174). -/
def execEmphasisOn (s : State) : Answered :=
  .next (conclude false s (takeByte (· == 0x06) (fun _ o => { o with emph := true }) s))

/-- EMPHASIS_OFF (R174). -/
def execEmphasisOff (s : State) : Answered :=
  .next (conclude false s (takeByte (· == 0x07) (fun _ o => { o with emph := false }) s))

/-- BACKSPACE (R174). -/
def execBackspace (s : State) : Answered :=
  .next (conclude false s (takeByte (· == 0x08) (fun _ o => o.back) s))

/-- WRAP_OFF (R174). -/
def execWrapOff (s : State) : Answered :=
  .next (conclude false s (takeByte (· == 0x0E) (fun _ o => { o with wrap := false }) s))

/-- WRAP_ON (R174). -/
def execWrapOn (s : State) : Answered :=
  .next (conclude false s (takeByte (· == 0x0F) (fun _ o => { o with wrap := true }) s))

/-- SCROLL_OFF (R174). -/
def execScrollOff (s : State) : Answered :=
  .next (conclude false s (takeByte (· == 0x10) (fun _ o => { o with scroll := false }) s))

/-- SCROLL_ON (R174). -/
def execScrollOn (s : State) : Answered :=
  .next (conclude false s (takeByte (· == 0x11) (fun _ o => { o with scroll := true }) s))

/-- IGNORED_CONTROL (R174). -/
def execIgnoredControl (s : State) : Answered :=
  .next (conclude false s (takeByte isIgnored (fun _ o => o.countIgnored) s))

/-- ROW_SEND (R168). -/
def execRowSend (s : State) : Answered := .next (conclude false s (sendRow s))

/-- ROW_SEND_DONE (R168). -/
def execRowSendDone (s : State) : Answered := .next (conclude false s (rowSent s))

end Sys2Proof.Machine
end

