-- ==== Sys2Proof/Machine/ExecTrack.lean ====
section
/-! DEFINITION. The meanings of the track and magazine commands (chapter 7). -/

namespace Sys2Proof.Machine

/-! ## Clamp (R125, R126) -/

/-- The open sensor reports open: CLAMP_OPEN is placed, after an opening at take-up by R124. -/
def clampOpened (s : State) : State :=
  if s.tmu.clamp = .opening then
    let s1 := setClamp .opened s
    if s1.working then tellOpen s.tmu.openTakeUp s1 else s1
  else s

/-- CLAMP_OPEN_SENSED (R125). -/
def execClampOpenSensed (lv : Levels) (s : State) : Answered := .next (conclude false s (clampOpened (sense lv s)))

/-- The open limit runs out. -/
def openLimit (s : State) : State :=
  if s.tmu.clamp = .opening then
    let s1 := setClamp .fault s
    match s1.ownWindow with
    | some w => motionNote false (.indexFault 0 w) s1
    | none => s1
  else s

/-- CLAMP_OPEN_LIMIT (R125). -/
def execClampOpenLimit (s : State) : Answered := .next (conclude false s (openLimit s))

/-- The closed sensor reports closed. -/
def clampClosed (s : State) : State := if s.tmu.clamp = .closing then setClamp .closed s else s

/-- CLAMP_CLOSED_SENSED (R126). -/
def execClampClosedSensed (lv : Levels) (s : State) : Answered := .next (conclude false s (clampClosed (sense lv s)))

/-- CLAMP_CLOSE_LIMIT (R126). -/
def execClampCloseLimit (s : State) : Answered :=
  .next (conclude false s (if s.tmu.clamp = .closing then raise .clampFault (setClamp .fault s) else s))

/-! ## Beam (R127) -/

/-- The drive reports done. -/
def beamDone (s : State) : State :=
  if s.tmu.beam = .moving then
    let s1 := { s with tmu := { s.tmu with beam := .home } }
    match s1.table with
    | some t => motionNote s1.tmu.feedMute (shiftNote t) s1
    | none => s1
  else s

/-- BEAM_DONE (R127). -/
def execBeamDone (lv : Levels) (s : State) : Answered := .next (conclude false s (beamDone (sense lv s)))

/-- BEAM_JAM (R127). -/
def execBeamJam (lv : Levels) (s : State) : Answered := .next (conclude false s (faultBeam 2 (sense lv s)))

/-- BEAM_TIMEOUT (R127). -/
def execBeamTimeout (lv : Levels) (s : State) : Answered := .next (conclude false s (faultBeam 3 (sense lv s)))

/-- The home sensor reports home while the beam is FAULT: HOME when no jam is reported. -/
def beamHomed (s : State) : State :=
  if s.tmu.beam = .fault ∧ s.tmu.levels.beamJam = false then { s with tmu := { s.tmu with beam := .home } } else s

/-- BEAM_HOME_SENSED (R127). -/
def execBeamHomeSensed (lv : Levels) (s : State) : Answered := .next (conclude false s (beamHomed (sense lv s)))

/-! ## Magazines and elevators (R128, R129) -/

/-- A magazine is inserted. -/
def insertMagazine (m : MagName) (s : State) : State :=
  if s.tmu.onDuty m && (s.tmu.elev m).st == .noMagazine then startHoming m s else s

/-- MAGAZINE_INSERTED (R128). -/
def execMagazineInserted (m : MagName) (lv : Levels) (s : State) : Answered :=
  .next (conclude false s (insertMagazine m (sense lv s)))

/-- The pusher that pushes at a magazine's elevator is PUSHING (R132, R136). -/
def State.pushesAt (s : State) (m : MagName) : Option PusherName :=
  match m with
  | .input => if s.tmu.pushIn.st = .pushing then some .input else none
  | _ => if s.tmu.pushOut.st = .pushing ∧ (s.tmu.pushOut.pending.map (·.mag)) = some m then some .output else none

/-- A magazine is removed (R129, R132, R136). -/
def removeMagazine (m : MagName) (s : State) : State :=
  if (s.tmu.elev m).st = .noMagazine then s
  else
    let s1 := putElev m .reset s
    let s2 := if s.tmu.onDuty m then place .tmu (.magazine (MagName.code m) 0 []) s1 else s1
    match s.pushesAt m with
    | some p => faultPush p s2
    | none => s2

/-- MAGAZINE_REMOVED (R129). -/
def execMagazineRemoved (m : MagName) (lv : Levels) (s : State) : Answered :=
  .next (conclude false s (removeMagazine m (sense lv s)))

/-- ELEVATOR_STEP (R128, R129). -/
def execElevatorStep (m : MagName) (lv : Levels) (s : State) : Answered :=
  .next (conclude false s (stepElev m (sense lv s)))

/-! ## Pushers (R132, R136) -/

/-- A push starts with its pending push record. -/
def startPush (p : PusherName) (s : State) : State :=
  match s.pushReady p with
  | some r => putPush p ⟨.pushing, some r⟩ s
  | none => s

/-- PUSH_START (R132, R136). -/
def execPushStart (p : PusherName) (s : State) : Answered := .next (conclude false s (startPush p s))

/-- PUSH_DONE (R132, R136). -/
def execPushDone (p : PusherName) (s : State) : Answered :=
  .next (conclude false s (if (s.tmu.push p).st = .pushing then finishPush p s else s))

/-- PUSH_JAM (R132, R136). -/
def execPushJam (p : PusherName) (s : State) : Answered :=
  .next (conclude false s (if (s.tmu.push p).st = .pushing then faultPush p s else s))

/-- The push limit runs out. -/
def pushExpired (p : PusherName) (s : State) : State := if (s.tmu.push p).st = .pushing then faultPush p s else s

/-- PUSH_LIMIT (R132, R136). -/
def execPushLimit (p : PusherName) (s : State) : Answered := .next (conclude false s (pushExpired p s))

end Sys2Proof.Machine
end

