-- ==== Sys2Proof/Machine/ExecStore.lean ====
section
/-! DEFINITION. The meanings of the flash port commands (chapters 8 and 9). -/

namespace Sys2Proof.Machine

/-- FLASH_OP_START (R148, R19). Nothing starts while a restart is past its rest step, or the port is not free. -/
def execFlashOpStart (s : State) : Answered :=
  .next (conclude false s (storeSettle { s with rcu := s.rcu.startOp (s.su.run == .resting) (s.lnk.waits .rcu) }))

/-- RECORD_PROGRAM_DONE (R150). -/
def execRecordProgramDone (s : State) : Answered := .next (conclude false s (storeSettle (recordDone s)))

/-- RECORD_PROGRAM_FAIL (R153). -/
def execRecordProgramFail (s : State) : Answered := .next (conclude false s (storeSettle (recordFailed s)))

/-- HEADER_PROGRAM_DONE (R150, R152). -/
def execHeaderProgramDone (s : State) : Answered := .next (conclude false s (storeSettle (headerDone s)))

/-- HEADER_PROGRAM_FAIL (R153). -/
def execHeaderProgramFail (s : State) : Answered := .next (conclude false s (storeSettle (headerFailed s)))

/-- ERASE_DONE (R152). -/
def execEraseDone (s : State) : Answered := .next (conclude false s (storeSettle (eraseFinished s)))

/-- ERASE_FAIL (R153). -/
def execEraseFail (s : State) : Answered := .next (conclude false s (storeSettle (eraseFailed s)))

/-- BAD_MARK_PROGRAM_DONE (R153). -/
def execBadMarkProgramDone (completed : Bool) (s : State) : Answered :=
  .next (conclude false s (storeSettle (badMarkEnded completed s)))

/-- RETRACTION_DONE (R157, R164). -/
def execRetractionDone (readBack : Byte) (s : State) : Answered := .next (conclude false s (storeSettle (retracted readBack s)))

/-- RECORD_READ_DONE (R160). -/
def execRecordReadDone (s : State) : Answered := .next (conclude false s (storeSettle (recordRead s)))

end Sys2Proof.Machine
end

