-- ==== Sys2Proof/Machine/Dispatch.lean ====
section
/-! DEFINITION. The meaning of every command: one arm a constructor of Instr, each a direct call of its meaning. -/

namespace Sys2Proof.Machine

/-- The effect of a command on everything but the queue of waiting commands. -/
def exec (i : Instr) (s : State) : Host.Outcome State Fault Refusal :=
  match i with
  | .powerOn straps lv => Sys2Proof.Machine.execPowerOn straps lv s
  | .selfCheckEnd failed => Sys2Proof.Machine.execSelfCheckEnd failed s
  | .storeMountEnd answered => Sys2Proof.Machine.execStoreMountEnd answered s
  | .quietTimerExpiry => Sys2Proof.Machine.execQuietTimerExpiry s
  | .readableFrameEnd chars lv => Sys2Proof.Machine.execReadableFrameEnd chars lv s
  | .unreadableFrameEnd lv => Sys2Proof.Machine.execUnreadableFrameEnd lv s
  | .frameIdleEnd lv => Sys2Proof.Machine.execFrameIdleEnd lv s
  | .slotSilence lv => Sys2Proof.Machine.execSlotSilence lv s
  | .stationAbsent lv => Sys2Proof.Machine.execStationAbsent lv s
  | .frameBuild => Sys2Proof.Machine.execFrameBuild s
  | .sendDeadlineMissed => Sys2Proof.Machine.execSendDeadlineMissed s
  | .readBackMismatch => Sys2Proof.Machine.execReadBackMismatch s
  | .transmitFailure lv => Sys2Proof.Machine.execTransmitFailure lv s
  | .freshStart lv => Sys2Proof.Machine.execFreshStart lv s
  | .resyncWatchExpiry lv => Sys2Proof.Machine.execResyncWatchExpiry lv s
  | .taktExpiry => Sys2Proof.Machine.execTaktExpiry s
  | .clampWaitExpiry => Sys2Proof.Machine.execClampWaitExpiry s
  | .headCompletion tag c => Sys2Proof.Machine.execHeadCompletion tag c s
  | .headTimeout => Sys2Proof.Machine.execHeadTimeout s
  | .headAlert a => Sys2Proof.Machine.execHeadAlert a s
  | .keyPress code => Sys2Proof.Machine.execKeyPress code s
  | .keyAck => Sys2Proof.Machine.execKeyAck s
  | .keyPause => Sys2Proof.Machine.execKeyPause s
  | .keyResume => Sys2Proof.Machine.execKeyResume s
  | .keyClear lv => Sys2Proof.Machine.execKeyClear lv s
  | .keySpool => Sys2Proof.Machine.execKeySpool s
  | .keyHoldRel => Sys2Proof.Machine.execKeyHoldRel s
  | .keySkip => Sys2Proof.Machine.execKeySkip s
  | .keyArrow dir => Sys2Proof.Machine.execKeyArrow dir s
  | .keySeated => Sys2Proof.Machine.execKeySeated s
  | .keyRemoved => Sys2Proof.Machine.execKeyRemoved s
  | .keyMsgUp => Sys2Proof.Machine.execKeyMsgUp s
  | .keyMsgDown => Sys2Proof.Machine.execKeyMsgDown s
  | .keyMsgClr => Sys2Proof.Machine.execKeyMsgClr s
  | .printableByte => Sys2Proof.Machine.execPrintableByte s
  | .newLine => Sys2Proof.Machine.execNewLine s
  | .home => Sys2Proof.Machine.execHome s
  | .clearHistory => Sys2Proof.Machine.execClearHistory s
  | .clearToEndOfLine => Sys2Proof.Machine.execClearToEndOfLine s
  | .column => Sys2Proof.Machine.execColumn s
  | .emphasisOn => Sys2Proof.Machine.execEmphasisOn s
  | .emphasisOff => Sys2Proof.Machine.execEmphasisOff s
  | .backspace => Sys2Proof.Machine.execBackspace s
  | .wrapOff => Sys2Proof.Machine.execWrapOff s
  | .wrapOn => Sys2Proof.Machine.execWrapOn s
  | .scrollOff => Sys2Proof.Machine.execScrollOff s
  | .scrollOn => Sys2Proof.Machine.execScrollOn s
  | .ignoredControl => Sys2Proof.Machine.execIgnoredControl s
  | .rowSend => Sys2Proof.Machine.execRowSend s
  | .rowSendDone => Sys2Proof.Machine.execRowSendDone s
  | .clampOpenSensed lv => Sys2Proof.Machine.execClampOpenSensed lv s
  | .clampOpenLimit => Sys2Proof.Machine.execClampOpenLimit s
  | .clampClosedSensed lv => Sys2Proof.Machine.execClampClosedSensed lv s
  | .clampCloseLimit => Sys2Proof.Machine.execClampCloseLimit s
  | .beamDone lv => Sys2Proof.Machine.execBeamDone lv s
  | .beamJam lv => Sys2Proof.Machine.execBeamJam lv s
  | .beamTimeout lv => Sys2Proof.Machine.execBeamTimeout lv s
  | .beamHomeSensed lv => Sys2Proof.Machine.execBeamHomeSensed lv s
  | .magazineInserted m lv => Sys2Proof.Machine.execMagazineInserted m lv s
  | .magazineRemoved m lv => Sys2Proof.Machine.execMagazineRemoved m lv s
  | .elevatorStep m lv => Sys2Proof.Machine.execElevatorStep m lv s
  | .pushStart p => Sys2Proof.Machine.execPushStart p s
  | .pushDone p => Sys2Proof.Machine.execPushDone p s
  | .pushJam p => Sys2Proof.Machine.execPushJam p s
  | .pushLimit p => Sys2Proof.Machine.execPushLimit p s
  | .flashOpStart => Sys2Proof.Machine.execFlashOpStart s
  | .recordProgramDone => Sys2Proof.Machine.execRecordProgramDone s
  | .recordProgramFail => Sys2Proof.Machine.execRecordProgramFail s
  | .headerProgramDone => Sys2Proof.Machine.execHeaderProgramDone s
  | .headerProgramFail => Sys2Proof.Machine.execHeaderProgramFail s
  | .eraseDone => Sys2Proof.Machine.execEraseDone s
  | .eraseFail => Sys2Proof.Machine.execEraseFail s
  | .badMarkProgramDone completed => Sys2Proof.Machine.execBadMarkProgramDone completed s
  | .retractionDone readBack => Sys2Proof.Machine.execRetractionDone readBack s
  | .recordReadDone => Sys2Proof.Machine.execRecordReadDone s
  | .frameBegin => Sys2Proof.Machine.execFrameBegin s

end Sys2Proof.Machine
end

