-- ==== Sys2Proof/Safety.lean ====
section
/-! DEFINITION. What counts as a sound state of the block, in the terms the statements use: nothing left to do at once, the
sizes the manual gives its queues and lists, the canonical form of the flash; what hearing a frame in its place is; and the
notes and frames whose bytes say all their fields. -/

namespace Sys2Proof.Machine

/-! ## Nothing left to do -/

/-- Between commands the block has nothing left to do of its own accord: the sequencer has no move, a restart no step, the
magazine alarms agree with the table, and a request waits only while the note queue is full (R19). Every step leaves it so. -/
def State.Settled (s : State) : Prop :=
  driveStep s = s ∧ restProgress s = s ∧ judgeMags s = s ∧ s.lnk.drain = s.lnk

/-- A settled station that handles frames, slots and keys: no self-check and no restart step runs. -/
def State.Ready (s : State) : Prop := s.Settled ∧ s.su.run = .running

/-! ## Sizes -/

/-- The note queue keeps to its 24 places, and what waits to enter it is in no frame (R19). -/
def Lnk.Fits (l : Lnk) : Prop := l.queue.length ≤ Config.queuePlaces ∧ ∀ q ∈ l.waiting, q.inFlight = false

/-- The own claim list, the skip request list and the untestable list keep to 2, 4 and 4 entries (R62, R110). -/
def Wsc.Fits (w : Wsc) : Prop :=
  w.claims.length ≤ Config.ownClaims ∧ w.skips.length ≤ Config.skipRequests ∧ w.untestable.length ≤ Config.untestables

/-- The lists of the console keep to their sizes: 8 alarms (R169), 96 text bytes (R172), 8 keys (R176), a history of 32 lines
of 64 cells, a cursor on it (R173), a view inside it (R175). -/
def Ocu.Fits (o : Ocu) : Prop :=
  o.alarms.length ≤ Config.alarmEntries ∧ o.textQ.length ≤ Config.textBytes ∧ o.keyQ.length ≤ Config.keyPlaces ∧
  o.hist.length = Config.historyLines ∧ (∀ l ∈ o.hist, l.length = Config.screenCols) ∧
  o.line < Config.historyLines ∧ o.col ≤ Config.screenCols ∧ o.viewTop ≤ 24

/-- The screen has 20 rows of 64 cells (R165). -/
def Ocu.ScreenFits (o : Ocu) : Prop :=
  o.screen.length = Config.screenRows ∧ ∀ r ∈ o.screen, r.length = Config.screenCols

/-- The write queue and the retraction list keep to 8 records and 4 entries (R148, R157). -/
def Rcu.Fits (r : Rcu) : Prop := r.queue.length ≤ Config.writeRecords ∧ r.retr.length ≤ Config.retractions

/-- Trace entries and reservations together keep to the ring's 64 places, no wire has two entries, and a reservation held is
not used up (R141, R142). -/
def Rcu.TraceFits (r : Rcu) : Prop :=
  r.ring.length + r.reserved ≤ Config.ringEntries ∧ (∀ v ∈ r.resv, 0 < v.count) ∧
  (r.ring.map fun e => (e.strip, e.unit, e.group, e.wire)).Nodup

/-- The fetch output queue holds addressed notes only: RECORD and FETCH_END (R158). -/
def Rcu.OutAddressed (r : Rcu) : Prop := ∀ n ∈ r.outNotes, n.cls = .addressed

/-- The staging buffer lists each received byte once, by rising offsets below its 3,962 bytes (R28). -/
def StartUp.StagingFits (u : StartUp) : Prop :=
  (u.staging.map (·.1)).Pairwise (· < ·) ∧ ∀ c ∈ u.staging, c.1 < Config.stagingBytes

/-! ## Frames heard -/

/-- The characters of a readable frame of another station, heard to their end by a settled station outside LISTEN in the
slot and the round it expects (R6, R10). -/
def State.HearsInPlace (s : State) (chars : List Byte) (f : Frame) : Prop :=
  s.Ready ∧ s.lnk.line = .hearing ∧ s.lnk.st ≠ .listen ∧ checkFrame chars = some f ∧ f.sender ≠ s.stn ∧
  f.sender = s.lnk.slot ∧ f.round = s.lnk.round

/-! ## Which commands touch the flash -/

/-- The commands at which a program or an erase of the flash ends, and POWER_ON, at which one may be cut short. -/
def touchesFlash : Instr → Bool
  | .powerOn .. | .recordProgramDone | .recordProgramFail | .headerProgramDone | .headerProgramFail | .eraseDone
  | .eraseFail | .badMarkProgramDone _ | .retractionDone _ => true
  | _ => false

/-! ## Notes, frames and tables whose bytes say all their fields -/

/-- Each field of a note fits the bytes it has (R179): byte fields, 16-bit and 32-bit fields, texts up to 24 bytes, 16 plan
bytes, 64 record bytes, a slot map of up to 40 slots. -/
def Note.fits : Note → Bool
  | .claim w u g => decide (w < 256 ∧ u < 256 ∧ g < 256)
  | .done w u g o => decide (w < 256 ∧ u < 256 ∧ g < 256 ∧ o < 256)
  | .release w u g n => decide (w < 256 ∧ u < 256 ∧ g < 256 ∧ n < 256)
  | .skip w u => decide (w < 256 ∧ u < 256)
  | .holdOff k => decide (k < 256)
  | .indexStart => true
  | .indexDone n sh => decide (n < 65536 ∧ sh < 256)
  | .clampOpen w => decide (w < 256)
  | .indexFault k w => decide (k < 256 ∧ w < 256)
  | .pullResult n => decide (n.win < 256 ∧ n.strip < 65536 ∧ n.unit < 256 ∧ n.group < 256 ∧ n.wire < 256 ∧
      n.bonder < 256 ∧ n.cls < 256 ∧ n.force < 65536 ∧ n.mode < 256 ∧ n.verdict < 256)
  | .load sl id => decide (sl < 256 ∧ id < 65536)
  | .unload id v sl => decide (id < 65536 ∧ v < 256 ∧ sl < 256)
  | .magazine m ev sl => decide (m < 256 ∧ ev < 256 ∧ sl.length ≤ 40) && sl.all (fun x => decide (x < 4))
  | .writeOff id pos sl => decide (id < 65536 ∧ pos < 256 ∧ sl < 256)
  | .plan id off bs => decide (id < 65536 ∧ off < 65536 ∧ bs.length = 16)
  | .restart k => decide (k < 256)
  | .text k bs => decide (k < 256 ∧ bs.length ≤ 24)
  | .fetch k f => decide (k < 256 ∧ f.tag < 256 ∧ f.first < 4294967296 ∧ f.last < 4294967296 ∧ f.kinds < 256 ∧
      f.strip < 65536 ∧ f.verdicts < 256 ∧ f.cmp < 256 ∧ f.value < 65536 ∧ f.skip < 256 ∧ f.max < 256)
  | .cancel k tag => decide (k < 256 ∧ tag < 256)
  | .retract k tag n => decide (k < 256 ∧ tag < 256 ∧ n < 4294967296)
  | .record k tag bs => decide (k < 256 ∧ tag < 256 ∧ bs.length = 64)
  | .fetchEnd k tag code m l lo b => decide (k < 256 ∧ tag < 256 ∧ code < 256 ∧ m < 256 ∧ l < 4294967296 ∧ lo < 65536 ∧
      b < 65536)
  | .answer k tag code => decide (k < 256 ∧ tag < 256 ∧ code < 256)

/-- A frame a station can send: a sender 0 to 7, a state but LISTEN, the section R4 requires, at most 12 notes that fit, at
most 640 characters with the end marker. -/
def Frame.fits (f : Frame) : Bool :=
  decide (f.sender < 8) && decide (f.planId < 65536) && f.state != .listen && sectionFits f &&
  decide (f.notes.length ≤ Config.frameNotes) && f.notes.all Note.fits && decide (f.chars.length + 1 ≤ Config.frameChars)

/-- A state code that stands for a defined value is not held as another one. -/
def UState.plain : UState → Bool
  | .other c => decide (4 ≤ c ∧ c < 16)
  | _ => true

def TState.plain : TState → Bool
  | .other c => decide (4 ≤ c ∧ c < 16)
  | _ => true

def GState.plain : GState → Bool
  | .other c => decide (5 ≤ c ∧ c < 16)
  | _ => true

def Phase.plain : Phase → Bool
  | .other c => decide (3 ≤ c ∧ c < 256)
  | _ => true

/-- A unit entry of a plan with `g` groups, each field in its range (R42, R180). -/
def UEntry.fits (g : Nat) (e : UEntry) : Bool :=
  e.st.plain && e.test.plain && decide (e.groups.length = g) && (e.tester.map fun k => decide (k < 8)).getD true &&
  e.groups.all fun y => y.st.plain && (y.claimer.map fun k => decide (k < 8)).getD true && decide (y.progress < 256)

/-- A strip record of a plan (R41). -/
def Strip.fits (p : Plan) (x : Strip) : Bool :=
  decide (1 ≤ x.id ∧ x.id ≤ 65535 ∧ x.slot < 256 ∧ x.spare < 64 ∧ x.units.length = p.units) && x.units.all (UEntry.fits p.groupCount)

/-- A magazine record: absent without a map, or present with one code for each slot of the plan (R45). -/
def MagRec.fits (n : Nat) (m : MagRec) : Bool :=
  if m.presence = 1 then decide (m.slots.length = n) && m.slots.all (fun x => decide (x < 4))
  else decide (m.presence < 256) && m.slots.isEmpty

/-- A table of a plan: six windows, the strips of the plan's geometry, the unit table of a strip on IN the one LOAD creates
(R41), every field in its range. -/
def Table.fits (p : Plan) (t : Table) : Bool :=
  decide (t.win.length = 6) && t.win.all (fun o => (o.map (Strip.fits p)).getD true) &&
  (t.railOut.map (Strip.fits p)).getD true &&
  (t.railIn.map fun x => decide (1 ≤ x.id ∧ x.id ≤ 65535 ∧ x.slot < 256 ∧ x.spare < 64) && x.units == (newStrip p x.id x.slot).units).getD
    true && t.phase.plain && t.magInput.fits p.slotsInput && t.magGood.fits p.slotsGood && t.magReject.fits p.slotsReject

/-! ## The strips of a table -/

/-- The strips on IN, the windows and OUT. -/
def Table.strips (t : Table) : Nat :=
  (t.win.filter (·.isSome)).length + (if t.railIn.isSome then 1 else 0) + (if t.railOut.isSome then 1 else 0)

/-- The windows above W(last) are empty, and strips loaded equals the strips in the cell plus those unloaded good, unloaded
reject and written off, modulo 2^32 (R40, R140). -/
def Table.Balanced (p : Plan) (t : Table) : Prop :=
  t.win.length = 6 ∧ (∀ w, p.windows ≤ w → t.win? w = none) ∧
  t.loaded = BitVec.ofNat 32 t.strips + t.good + t.reject + t.written

/-- No station holds more than two claims, and no unit of the strip on IN is claimed (R67, R41). -/
def Table.ClaimsBounded (t : Table) : Prop :=
  (∀ k, t.claims k ≤ 2) ∧ ∀ x, t.railIn = some x → ∀ e ∈ x.units, ∀ k, e.claims k = 0

/-- Claims of different stations on one window lie on units whose columns differ by the keep-out or more (R67). -/
def Table.ClaimsApart (p : Plan) (t : Table) : Prop :=
  ∀ w x, t.win? w = some x → ∀ u v e f, x.units[u]? = some e → x.units[v]? = some f → ∀ a b, a ≠ b →
    0 < e.claims a → 0 < f.claims b → p.col u + p.keepOut ≤ p.col v ∨ p.col v + p.keepOut ≤ p.col u

end Sys2Proof.Machine
end

