-- ==== Sys2Proof/Certificates/Slice0/Obligations.lean ====
section
/-! DEFINITION. The statements about the model, each with the rule or section of spec/ it formalises. `finish s` is what ends
every command: `ScreenRedrawnAtTheEnd` says what it does, so that `exec c s = .next (finish s')` gives the whole next state. -/

open Sys2Proof Sys2Proof.Machine

/-! ## The machine as a whole -/

/-- A step executes the command at the front of the queue on the state with the queue's rest; on an empty queue the block
idles (assumption 2). -/
def Obligations.StepTakesTheFrontCommand : Prop :=
  ∀ (c : Instr) (rest : List Instr) (s : State),
    step { s with pending := c :: rest } = exec c { s with pending := rest } ∧
    step { s with pending := [] } = .next { s with pending := [] }

/-- Every command has a next state, whatever the state and the operands; it leaves the waiting commands alone and moves the
model's counter for free values on by one (assumptions 3 and 4). -/
def Obligations.EveryCommandHasANextState : Prop :=
  ∀ (c : Instr) (s : State), ∃ t, exec c s = .next t ∧ t.pending = s.pending ∧ t.free = s.free + 1

/-- What ends every command: the screen becomes the picture of the state, and every row that changed enters the changed-row
set at its tail unless it is in it (R168); nothing else changes. The picture follows (R165, R166, R169, R175): row 0 and row
11 with each field right-aligned in its width and all nines when too wide, the strip map with its header and glyphs or blank,
the same legend always, the four newest alarms, eight lines of the history. That several rows enter in ascending order
(assumption 12: R168 gives the order only after power-on and restart), the counter for free values that moves on and the takt
seconds shown while the timer runs or with no plan (assumption 3), decimal numbers without leading zeros, the spelling of the
alarm rows, free blanks before the fields of header and alarm rows (assumption 5), no emphasis in an EMPTY window (assumption
77), and the ordinary status line of a LISTEN station whose self-check failed (assumption 78) are the model's choices. -/
def Obligations.ScreenRedrawnAtTheEnd : Prop :=
  (∀ s : State, finish s = { s with
    free := s.free + 1
    ocu := { s.ocu with
      screen := s.render
      changed := s.ocu.changed ++ (List.range 20).filter fun r =>
        !s.ocu.changed.contains r && s.ocu.screen.getD r [] != s.render.getD r [] } }) ∧
  ∀ s : State, s.stn ≤ 7 →
    let text := fun (x : String) => x.toList.map fun c => BitVec.ofNat 8 c.toNat
    let field := fun (w : Nat) (l : List Byte) => List.replicate (w - l.length) 0x20#8 ++ l
    let blank : Cell := ⟨0x20#8, false⟩
    let count := fun (w n : Nat) => if 10 ^ w ≤ n then List.replicate w 0x39#8 else (List.range w).map fun i =>
      if i + 1 = w ∨ 10 ^ (w - 1 - i) ≤ n then BitVec.ofNat 8 (0x30 + n / 10 ^ (w - 1 - i) % 10) else 0x20#8
    let orBlank := fun (w : Nat) (n : Option Nat) => (n.map (count w)).getD (List.replicate w 0x20#8)
    let row := fun (r : Nat) => s.render.getD r []
    let chars := fun (r : Nat) => (row r).map (·.ch)
    let words := fun (l : List Byte) => l.filter (· != 0x20#8)
    let fields := fun (r : Nat) (l : List (List Byte)) =>
      row r = ((List.intercalate [0x20#8] l ++ List.replicate 64 0x20#8).take 64).map fun b => ⟨b, false⟩
    let state := match s.lnk.st with
      | .listen => if s.lnk.silenced then "SILENT" else "LISTEN"
      | .joining => "JOIN"
      | .active => "ACTIVE"
      | .resync => "RESYNC"
      | .heldCheck => "HCHECK"
    let head := [text "S" ++ [BitVec.ofNat 8 (0x30 + s.stn)], field 6 (text state),
      text (if s.su.straps.role = .pull then "P" else "B")]
    let bsq := match s.bsq.st with
      | .idle => "IDLE" | .running => "RUN" | .finishing => "FINISH"
      | .paused => "PAUSED" | .halted => "HALTED" | .spoolOut => "SPOOL"
    s.render.length = 20 ∧ (∀ r < 12, (row r).length = 64) ∧
    (s.lnk.st = .heldCheck → (chars 0).take 12 = List.intercalate [0x20#8] head ++ [0x20#8]) ∧
    (s.lnk.st ≠ .heldCheck → ∃ takt, (s.wsc.takt = .expired → takt = 0) ∧
      (∀ p, s.su.held = some p → (s.wsc.takt = .stopped → takt = p.taktLimit) ∧ takt ≤ p.taktLimit) ∧
      fields 0 (head ++ [orBlank 5 (s.table.map (·.index.toNat)), field 6 (text bsq), count 2 takt, count 5 s.ctu.refused,
        count 5 s.rcu.discarded, count 3 s.ocu.overflow, count 5 s.su.ignored,
        if s.ocu.fullMark then text "FULL" else List.replicate 4 0x20#8])) ∧
    fields 11 [orBlank 6 (s.table.map (·.loaded.toNat % 1000000)), orBlank 6 (s.table.map (·.good.toNat % 1000000)),
      orBlank 6 (s.table.map (·.reject.toNat % 1000000)), orBlank 6 (s.table.map (·.written.toNat % 1000000)),
      count 5 s.rcu.lost, count 5 s.tmu.missed, count 3 s.ocu.textDropped, count 3 s.ocu.ctlIgnored,
      count 2 s.ocu.keyDropped] ∧
    (s.table = none ∨ s.seat = none → ∀ r, 1 ≤ r → r ≤ 5 → row r = List.replicate 64 blank) ∧
    (∀ p seat t, s.su.held = some p → s.seat = some seat → s.table = some t → seat.win ≤ 5 →
      let strip := t.win? seat.win
      (∀ c, t.phase ≠ .other c) → (∀ x, strip = some x → x.id < 100000 ∧ x.slot < 100000) →
      let shown := match strip with
        | none => text "EMPTY"
        | some x => count 5 x.id ++ count 5 x.slot ++ text (if x.sampled then "S" else "") ++
            text (if x.pullFail then "F" else "")
      words (chars 1) = words (text "W" ++ [BitVec.ofNat 8 (0x30 + seat.win)] ++ shown ++
        text (if t.phase = .opened then "OPEN" else if t.phase = .moving then "MOVING" else "FAULT")) ∧
      (row 1).all (fun c => !c.em) = true) ∧
    (∀ p seat t, s.su.held = some p → s.seat = some seat → s.table = some t → ∀ i k, i < 4 → k < 64 →
      let strip := t.win? seat.win
      let here : Prop := k % 2 = 0 ∧ k / 2 < p.cols ∧ i < p.rows
      (strip = none ∨ ¬here → (row (2 + i))[k]? = some blank) ∧
      ∀ x e, strip = some x → here → x.units[i * p.cols + k / 2]? = some e →
        let claimed := fun (own : Bool) => e.groups.any (fun y => y.st == .claimed && (y.claimer == some s.stn) == own) ||
          (e.test == .claimed && (e.tester == some s.stn) == own)
        let glyph :=
          if e.st = .skipped then some 's' else if e.st = .tested then some 't' else if e.st = .failed then some 'x'
          else if claimed true then some 'c' else if claimed false then some 'o'
          else if e.groups.all (·.st == .done) then some '#'
          else if e.groups.any (fun y => y.st == .done || decide (0 < y.progress)) then some 'p'
          else if e.groups.all (fun y => y.st == .pending && y.progress == 0) then some '.' else none
        ∃ c, (row (2 + i))[k]? = some c ∧ c.em = (s.ocu.mapCursor == some (i, k / 2)) ∧
          ∀ g, glyph = some g → c.ch = BitVec.ofNat 8 g.toNat) ∧
    row 6 = State.reset.render.getD 6 [] ∧
    (∀ i < 4, match s.ocu.alarms.reverse[i]? with
      | none => row (7 + i) = List.replicate 64 blank
      | some e =>
        let name := match e.code with
          | .duplicateStation => "DUPLICATE_STATION" | .feedConflict => "FEED_CONFLICT"
          | .unloadConflict => "UNLOAD_CONFLICT" | .planInvalid => "PLAN_INVALID" | .planConflict => "PLAN_CONFLICT"
          | .notSeated => "NOT_SEATED" | .resync => "RESYNC" | .feedAbsent => "FEED_ABSENT"
          | .unloadAbsent => "UNLOAD_ABSENT" | .headHalted => "HEAD_HALTED" | .spoolOut => "SPOOL_OUT"
          | .qualityHold => "QUALITY_HOLD" | .indexJam => "INDEX_JAM" | .clampFault => "CLAMP_FAULT"
          | .elevatorFault => "ELEVATOR_FAULT" | .pushFault => "PUSH_FAULT" | .magInEmpty => "MAG_IN_EMPTY"
          | .magOutFull => "MAG_OUT_FULL" | .storeFull => "STORE_FULL" | .storeFault => "STORE_FAULT"
        let how := match e.st with
          | .raised => "RAISED" | .acked => "ACKED" | .clearedUnacked => "CLEARED_UNACKED"
        (row (7 + i)).all (fun c => c.em == (e.st == .raised)) = true ∧
        (e.index < 100000 → e.repeats < 100000 →
          words (chars (7 + i)) = words (text name ++ text how ++ count 5 e.index ++ count 5 e.repeats))) ∧
    ∀ i l, i < 8 → s.ocu.hist[s.ocu.viewTop + i]? = some l → row (12 + i) = l

/-- The machine right after reset: the values of R27 with those of the blocks' own chapters. The straps, the sensor levels,
the slot and the contents of the flash are the model's choices (assumptions 6 and 9). It meets the invariants below. -/
def Obligations.ResetIsAsThePowerOnStateGives : Prop :=
  let s := State.reset
  s.pending = [] ∧ s.su.run = .selfCheck ∧ s.su.mountEnded = false ∧ s.su.held = none ∧ s.su.staging = [] ∧
  s.su.stagedId = 0 ∧ s.su.ignored = 0 ∧ s.su.feedLost = false ∧ s.su.unloadLost = false ∧ s.su.joinWatch = none ∧
  s.lnk.st = .listen ∧ s.lnk.roster = List.replicate 8 ⟨false, none, none, .clear, 0, false, 0⟩ ∧ s.lnk.queue = [] ∧
  s.lnk.waiting = [] ∧ s.lnk.txFail = 0 ∧
  s.ctu.rep = none ∧ s.ctu.copied = List.replicate 14 false ∧ s.ctu.watch = none ∧ s.ctu.refused = 0 ∧
  s.wsc.claims = [] ∧ s.wsc.takt = .stopped ∧ s.wsc.vote = false ∧ s.wsc.skips = [] ∧ s.wsc.voteRec = none ∧
  s.wsc.clampWait = false ∧ s.wsc.pulls = [] ∧ s.wsc.untestable = [] ∧
  s.bsq.st = .idle ∧ s.bsq.head = .unknown ∧ s.bsq.work = [] ∧ s.bsq.cursor = none ∧ s.bsq.retry = 0 ∧ s.bsq.out = none ∧
  s.bsq.nextTag = 0 ∧ s.bsq.late = none ∧ s.bsq.alert = none ∧ s.bsq.stop = false ∧
  s.tmu.elInput.st = .noMagazine ∧ s.tmu.elGood.st = .noMagazine ∧ s.tmu.elReject.st = .noMagazine ∧
  s.tmu.pushIn = ⟨.idle, none⟩ ∧ s.tmu.pushOut = ⟨.idle, none⟩ ∧ s.tmu.transfer = false ∧ s.tmu.missed = 0 ∧
  s.rcu.ring = [] ∧ s.rcu.resv = [] ∧ s.rcu.lost = 0 ∧ s.rcu.discarded = 0 ∧ s.rcu.store = .mounting ∧ s.rcu.fails = 0 ∧
  s.rcu.fetch = none ∧ s.rcu.outRec = [] ∧ s.rcu.outEnd = none ∧
  s.ocu.alarms = [] ∧ s.ocu.overflow = 0 ∧ s.ocu.changed = List.range 20 ∧ s.ocu.textQ = [] ∧ s.ocu.textReady = true ∧
  s.ocu.textDropped = 0 ∧ s.ocu.hist = List.replicate 32 (List.replicate 64 ⟨0x20#8, false⟩) ∧ s.ocu.line = 0 ∧
  s.ocu.col = 0 ∧ s.ocu.emph = false ∧ s.ocu.wrap = true ∧ s.ocu.scroll = true ∧ s.ocu.fullMark = false ∧
  s.ocu.colPending = false ∧ s.ocu.ctlIgnored = 0 ∧ s.ocu.viewTop = 0 ∧ s.ocu.keyQ = [] ∧ s.ocu.keyDropped = 0 ∧
  s.Settled ∧ s.lnk.Fits ∧ s.wsc.Fits ∧ s.ocu.Fits ∧ s.ocu.ScreenFits ∧ s.rcu.Fits ∧ s.rcu.TraceFits ∧
  s.rcu.OutAddressed ∧ s.su.StagingFits ∧ Memory.wf s.flash = true

/-- Every step leaves the block settled, and the note queue within its 24 places: the sequencer has no move left, a restart no
step, the magazine alarms agree with the table, and a request waits only while the note queue is full (R19). -/
def Obligations.EveryStepLeavesTheBlockSettled : Prop :=
  ∀ s t : State, s.Settled → s.lnk.Fits → step s = .next t → t.Settled ∧ t.lnk.Fits

/-- The lists of the work scheduler and the record unit keep to their sizes: 2 own claims, 4 skip requests and
4 untestable units (R62, R71, R110; that a further one waits for a place is the model's choice, assumption 74), 8 records in
the write queue (R148) and 4 retractions (R157). Trace entries and reservations together keep to the 64 places of
the ring, which never holds two entries for one wire (R141); the fetch output queue holds addressed notes only (R158); the
staging buffer lists offsets below 3,962, rising (R28). -/
def Obligations.SchedulerAndRecordListsKeepTheirSizes : Prop :=
  (∀ s t : State, s.wsc.Fits → step s = .next t → t.wsc.Fits) ∧
  (∀ s t : State, s.rcu.Fits → step s = .next t → t.rcu.Fits) ∧
  (∀ s t : State, s.rcu.TraceFits → step s = .next t → t.rcu.TraceFits) ∧
  (∀ s t : State, s.rcu.OutAddressed → step s = .next t → t.rcu.OutAddressed) ∧
  ∀ s t : State, s.su.StagingFits → step s = .next t → t.su.StagingFits

/-- The console keeps to its sizes: 8 alarms (R169), 96 text bytes (R172), 8 keys (R176), 32 lines of 64 cells with the
cursor on them (R173), the view inside the history (R175). The screen keeps 20 rows of 64 cells, and after every command it is
the picture of the state the command left (R165). -/
def Obligations.ConsoleAndScreenKeepTheirSizes : Prop :=
  (∀ s t : State, s.ocu.Fits → step s = .next t → t.ocu.Fits) ∧
  ∀ (c : Instr) (s t : State), s.ocu.Fits → exec c s = .next t →
    t.ocu.ScreenFits ∧ t.ocu.screen = State.render { t with free := s.free }

/-- The flash keeps its canonical form: addresses rising and inside the 4 MiB, no erased byte listed. No command but those that
end a program or an erase, and POWER_ON, changes a byte of it (section 8.2): for any other command the flash is the same list,
and so every byte reads as before. -/
def Obligations.OnlyFlashOperationsChangeTheFlash : Prop :=
  (∀ s t : State, Memory.wf s.flash = true → step s = .next t → Memory.wf t.flash = true) ∧
  ∀ (c : Instr) (s t : State), touchesFlash c = false → exec c s = .next t →
    t.flash = s.flash ∧ ∀ a, flashRead t.flash a = flashRead s.flash a

/-! ## Start-up (chapter 2) and the mount (R155) -/

/-- POWER_ON samples the straps and puts every block into its power-on state (R24, R27, and the blocks' own rules): the
self-check and the mount begin, the station holds no table and no plan, nothing waits anywhere, the clamp and the beam stand
as their sensors say (R124), every row of the screen is to be sent (R168). The flash keeps its bytes when no operation was
under way. The slot, the elevators' targets, the empty write queue and retraction list and the free flash port are the model's
choices where no rule gives them (assumption 9). -/
def Obligations.PowerOnPutsEveryBlockInItsFirstState : Prop :=
  ∀ (x : Straps) (lv : Levels) (s : State), ∃ t, exec (.powerOn x lv) s = .next t ∧
    t.su = { straps := x, run := .selfCheck, failed := [], mountEnded := false, staging := [], stagedId := 0, held := none,
             ignored := 0, feedLost := false, unloadLost := false, joinWatch := none } ∧
    t.lnk.st = .listen ∧ t.lnk.silenced = false ∧ t.lnk.roster = List.replicate 8 ⟨false, none, none, .clear, 0, false, 0⟩ ∧
    t.lnk.queue = [] ∧ t.lnk.waiting = [] ∧ t.lnk.txFail = 0 ∧
    t.ctu = ⟨none, List.replicate 14 false, none, 0⟩ ∧ t.wsc = ⟨[], .stopped, false, [], none, false, [], []⟩ ∧
    t.bsq.st = .idle ∧ t.bsq.head = .unknown ∧ t.bsq.work = [] ∧ t.bsq.cursor = none ∧ t.bsq.retry = 0 ∧ t.bsq.out = none ∧
    t.bsq.nextTag = 0 ∧ t.bsq.late = none ∧ t.bsq.alert = none ∧ t.bsq.stop = false ∧
    t.tmu.clamp = (if lv.clampClosed then .closed else .opened) ∧ t.tmu.beam = (if lv.beamHome then .home else .fault) ∧
    t.tmu.transfer = false ∧ t.tmu.elInput.st = .noMagazine ∧ t.tmu.elGood.st = .noMagazine ∧
    t.tmu.elReject.st = .noMagazine ∧ t.tmu.pushIn = ⟨.idle, none⟩ ∧ t.tmu.pushOut = ⟨.idle, none⟩ ∧ t.tmu.missed = 0 ∧
    t.rcu.ring = [] ∧ t.rcu.resv = [] ∧ t.rcu.lost = 0 ∧ t.rcu.discarded = 0 ∧ t.rcu.queue = [] ∧ t.rcu.retr = [] ∧
    t.rcu.store = .mounting ∧ t.rcu.fails = 0 ∧ t.rcu.port = none ∧ t.rcu.fetch = none ∧ t.rcu.outRec = [] ∧
    t.rcu.outEnd = none ∧
    t.ocu.alarms = [] ∧ t.ocu.overflow = 0 ∧ t.ocu.mapCursor = none ∧ t.ocu.changed = List.range 20 ∧ t.ocu.textQ = [] ∧
    t.ocu.textReady = true ∧ t.ocu.textDropped = 0 ∧
    t.ocu.hist = List.replicate 32 (List.replicate 64 ⟨0x20#8, false⟩) ∧ t.ocu.line = 0 ∧ t.ocu.col = 0 ∧
    t.ocu.emph = false ∧ t.ocu.wrap = true ∧ t.ocu.scroll = true ∧ t.ocu.fullMark = false ∧ t.ocu.colPending = false ∧
    t.ocu.ctlIgnored = 0 ∧ t.ocu.viewTop = 0 ∧ t.ocu.keyQ = [] ∧ t.ocu.keyDropped = 0 ∧ t.pending = s.pending ∧
    (s.rcu.port = none → t.flash = s.flash)

/-- The end of a self-check (R25, R37, R38). After power-on the station is in LISTEN with its result held and its quiet timer
started, and nothing else has changed. After a restart the alarm list holds only what still stands: HEAD_HALTED or SPOOL_OUT
for the sequencer, STORE_FULL or STORE_FAULT for the store. That the list is cleared again and these are raised at this
moment, the head's before the store's, is the model's choice (assumptions 21 and 12). -/
def Obligations.SelfCheckEndStartsListening : Prop :=
  ∀ (failed : List CheckItem) (s : State), s.Settled → s.lnk.st = .listen →
    (s.su.run = .selfCheck → s.bsq.st = .idle → s.bsq.stop = false → s.bsq.enabled = false →
      exec (.selfCheckEnd failed) s = .next (finish
        { s with su := { s.su with run := .running, failed := failed }, lnk := { s.lnk with quiet := .running } })) ∧
    (s.su.run = .restartCheck → s.bsq.stop = false → s.bsq.enabled = false → s.bsq.work = [] →
      s.bsq.st = .idle ∨ s.bsq.st = .halted ∨ s.bsq.st = .spoolOut →
      ∃ t, exec (.selfCheckEnd failed) s = .next t ∧ t.su.run = .running ∧ t.su.failed = failed ∧ t.lnk.st = .listen ∧
        t.lnk.quiet = .running ∧ t.ocu.overflow = 0 ∧ t.rcu = s.rcu ∧ t.bsq = s.bsq ∧
        t.ocu.alarms =
          (match s.bsq.st with
            | .halted => [⟨.headHalted, .raised, 0, 0⟩]
            | .spoolOut => [⟨.spoolOut, .raised, 0, 0⟩]
            | _ => []) ++
          (match s.rcu.store with
            | .full => [⟨.storeFull, .raised, 0, 0⟩]
            | .fault => [⟨.storeFault, .raised, 0, 0⟩]
            | _ => []))

/-- A PLAN note heard in a frame without a table (R28 to R32). In ACTIVE and RESYNC it is ignored and counted, in HELD_CHECK
ignored. In JOINING a target id that is neither held nor staged first discards the held plan and the staging; then an id that is
0, or not the target id, is ignored, and the held plan's id is ignored and counted. Any other note is stored, staging restarting
when its id is another; the plan then stays incomplete, is refused with PLAN_INVALID and staging cleared, or becomes the held
plan: seated, the station begins to gather a table with its join watch at 0 and every copy mark but the fixed ones not copied;
else NOT_SEATED is raised. That the slot at whose end the watch starts is not counted is the model's reading (assumption 14).
The conditions of a valid plan, the seat of a station and the owner of a window follow. -/
def Obligations.PlanNotesAreStagedAndThePlanIsHeld : Prop :=
  (∀ (chars : List Byte) (lv : Levels) (s : State) (f : Frame) (id off : Nat) (bs : List Byte), s.HearsInPlace chars f →
    s.su.StagingFits → f.flags.noTable = true → f.notes = [.plan id off bs] →
    let roster := s.lnk.roster.modify f.sender fun _ =>
      ⟨true, some f.state, some f.role, f.flags, f.planId, f.flags.voteYes, 0⟩
    let target := (roster.find? fun e => e.present && e.last == some .active && !e.flags.noTable).map (·.planId)
    let other := target.any fun k => s.su.held.map (·.id) != some k && s.su.stagedId != k
    let held := if other then none else s.su.held
    let staging := if other then [] else s.su.staging
    let stagedId := if other then 0 else s.su.stagedId
    let reach := fun (p : State → Prop) => ∃ t, exec (.readableFrameEnd chars lv) s = .next t ∧ p t
    let counted := min 65535 (s.su.ignored + 1)
    (s.lnk.st = .active ∨ s.lnk.st = .resync → reach fun t => t.su.held = s.su.held ∧ t.su.staging = s.su.staging ∧
      t.su.stagedId = s.su.stagedId ∧ t.su.ignored = counted) ∧
    (s.lnk.st = .heldCheck → reach fun t => t.su.held = s.su.held ∧ t.su.staging = s.su.staging ∧
      t.su.stagedId = s.su.stagedId ∧ t.su.ignored = s.su.ignored) ∧
    (s.lnk.st = .joining →
      let left := fun (n : Nat) (t : State) => t.su.held = held ∧ t.su.staging = staging ∧ t.su.stagedId = stagedId ∧
        t.su.ignored = n
      (id = 0 ∨ target.any (· != id) = true → reach (left s.su.ignored)) ∧
      (id ≠ 0 → target.any (· != id) = false → ∀ p, held = some p → p.id = id → reach (left counted)) ∧
      (id ≠ 0 → target.any (· != id) = false → (∀ p, held = some p → p.id ≠ id) →
        let base := if held.isNone && stagedId == id then staging else []
        let stored := fun (a : Nat) =>
          if off ≤ a ∧ a < off + bs.length ∧ a < 3962 then bs[a - off]? else cellGet base a
        let length := match stored 2, stored 3 with
          | some a, some b => some (a.toNat + 256 * b.toNat)
          | _, _ => none
        let bytes := fun (n : Nat) => (List.range n).map fun a => (stored a).getD 0
        let whole := fun (n : Nat) => (∀ a < n, (stored a).isSome = true) ∧
          rd16 (bytes n) (n - 2) = (crc16 ((bytes n).take (n - 2))).toNat
        let cleared := fun (t : State) => t.su.staging = [] ∧ t.su.stagedId = 0 ∧ t.su.ignored = s.su.ignored
        let raised := fun (a : Alarm) (t : State) =>
          s.ocu.alarms = [] → ∃ e ∈ t.ocu.alarms, e.code = a ∧ e.st = .raised
        (length = none ∨ (∃ n, length = some n ∧ 49 ≤ n ∧ n ≤ 3962 ∧ ¬whole n) → reach fun t => t.su.held = none ∧
          t.su.stagedId = id ∧ t.su.ignored = s.su.ignored ∧ ∀ a, cellGet t.su.staging a = stored a) ∧
        (∀ n, length = some n → n < 49 ∨ 3962 < n ∨ (whole n ∧ validPlan id (bytes n) = none) →
          reach fun t => t.su.held = none ∧ cleared t ∧ raised .planInvalid t) ∧
        (∀ n p, length = some n → 49 ≤ n → n ≤ 3962 → whole n → validPlan id (bytes n) = some p →
          reach fun t => t.su.held = some p ∧ cleared t ∧ t.lnk.st = .joining ∧ t.ocu.mapCursor = some (0, 0) ∧
            (∀ i n, s.ocu.alarms = [⟨.planInvalid, .raised, i, n⟩] →
              ∃ e ∈ t.ocu.alarms, e.code = .planInvalid ∧ e.st = .clearedUnacked) ∧
            ((p.seated s.su.straps).isSome = true → t.su.joinWatch = some 0 ∧
              t.ctu.copied = (List.range 14).map fun n => decide (2 * p.windows + 1 ≤ n) && decide (n < 13)) ∧
            (p.seated s.su.straps = none → raised .notSeated t ∧ (s.su.joinWatch = none → t.su.joinWatch = none)))))) ∧
  (∀ (id : Nat) (bs : List Byte) (p : Plan), validPlan id bs = some p ↔
    p = parsePlan bs ∧ p.id = id ∧ rd16 bs 2 = bs.length ∧ p.imageLength = bs.length ∧
    (∀ i < p.seats.length, rd8 bs (34 + 6 * i) ≤ 1 ∧ rd8 bs (35 + 6 * i) ≤ 1) ∧ rd8 bs 17 ≤ 1 ∧
    (1 ≤ p.id ∧ p.id ≤ 65535) ∧ (1 ≤ p.windows ∧ p.windows ≤ 6) ∧ (1 ≤ p.seats.length ∧ p.seats.length ≤ 12) ∧
    (∀ k ∈ p.seats, k.stn ≤ 7 ∧ k.win < p.windows ∧ if k.pull then k.cls = 0 else k.cls ≤ 3) ∧
    (1 ≤ p.rows ∧ p.rows ≤ 4) ∧ (1 ≤ p.cols ∧ p.cols ≤ 16) ∧ p.rows * p.cols ≤ 48 ∧ p.keepOut ≤ 3 ∧
    (1 ≤ p.groups.length ∧ p.groups.length ≤ 4) ∧
    (∀ g ∈ p.groups, g.cls ≤ 3 ∧ 1 ≤ g.wires.length ∧ g.wires.length ≤ 160 ∧
      ∀ w ∈ g.wires, w.site1 ≤ 511 ∧ w.site2 ≤ 511 ∧ w.loop ≤ 15 ∧ w.sched ≤ 31) ∧
    p.retryLimit ≤ 3 ∧ (1 ≤ p.taktLimit ∧ p.taktLimit ≤ 60) ∧ (50 ≤ p.headTimeout ∧ p.headTimeout ≤ 2000) ∧
    (1 ≤ p.sample ∧ p.sample ≤ 255) ∧ p.tests.length ≤ 4 ∧ (∀ u ∈ p.tests, u < p.rows * p.cols) ∧
    (∀ x ∈ p.minForce, 10 ≤ x ∧ x ≤ 250) ∧ (∀ m, 1 ≤ p.slots m ∧ p.slots m ≤ 40) ∧
    (10 ≤ p.pitch ∧ p.pitch ≤ 2000) ∧ (1 ≤ p.stepInterval ∧ p.stepInterval ≤ 15) ∧
    (p.seats.map (·.stn)).Nodup ∧ (p.seats.map fun k => (k.win, k.left)).Nodup ∧
    (∀ w < p.windows, ∃ k ∈ p.seats, k.win = w) ∧ (p.seats.filter (·.pull)).length ≤ 1 ∧
    (p.tests = [] ∨ (p.seats.filter (·.pull)).length = 1) ∧ p.tests.Nodup) ∧
  (∀ (p : Plan) (x : Straps) (k : Seat), (p.seats.map (·.stn)).Nodup →
    (p.seated x = some k ↔ k ∈ p.seats ∧ k.stn = x.stn ∧ (k.pull = true ↔ x.role = .pull))) ∧
  ∀ (s : State) (p : Plan) (w : Nat), s.su.held = some p →
    (s.ownWindow = some w ↔ ∃ k, p.seated s.su.straps = some k ∧ k.win = w ∧ ∀ j ∈ p.seats, j.win = w → s.stn ≤ j.stn)

/-- The end of the mount (R27, R151, R154, R155, R156): the store is LOCKED with the strap set, FAULT with STORE_FAULT raised
when the flash did not answer, and otherwise FULL under its three conditions and else READY; joining no longer waits for it.
The newest number is that of the last slot written, before the first one all 0xFF, in the block of the highest sequence number
among those that hold records; with room and not BAD that block is OPEN. While no plan is held the block table is the one the
headers give, each block ending below the one opened next. A header gives its block's state by the first rule of R155 it
meets, and a locked store counts a block that would be erased as BAD (R156); `high` is the highest erase count found. Records
that wait are discarded when the store has no room; STORE_FULL is raised with FULL. That a block's readable numbers end below
the next header still on the flash (assumption 54) and a newest number of 0 is none (assumption 30) are the model's readings;
that LOCKED comes before FAULT (assumption 70), that a mount that ends in FAULT or LOCKED keeps the records that wait
(assumption 61), that no numbers are kept of a block cut short, and that a marked block whose erase count is all ones takes
`high` (assumption 60), are the model's choices. -/
def Obligations.MountEndReadsTheHeadersAndSetsTheStore : Prop :=
  (∀ (answered : Bool) (s : State), s.Settled → s.rcu.store = .mounting → s.lnk.st ≠ .active →
    let locked := s.su.straps.storeLock
    let hdr := fun (i : Nat) => (List.range 32).map fun k => flashRead s.flash (65536 * i + k)
    let count := fun (i : Nat) => rd32 (hdr i) 0
    let mark := fun (i : Nat) => rd8 (hdr i) 4
    let seq := fun (i : Nat) => rd32 (hdr i) 5
    let first := fun (i : Nat) => rd32 (hdr i) 9
    let high := ((((List.range 64).map count).filter (· != 0xFFFFFFFF)).max?).getD 0
    let records := fun (i : Nat) => i < 64 ∧ seq i ≠ 0xFFFFFFFF ∧ first i ≠ 0xFFFFFFFF ∧ (mark i = 0xFF → count i ≠ 0xFFFFFFFF)
    let newest := fun (i : Nat) => records i ∧ (∀ j, records j → seq j ≤ seq i) ∧ ∀ j < i, records j → seq j < seq i
    let blank := fun (i k : Nat) => ∀ x < 64, flashRead s.flash (65536 * i + 32 + 64 * k + x) = 0xFF#8
    let written := fun (i n : Nat) => n ≤ 1023 ∧ (∀ k < n, ¬blank i k) ∧ (n < 1023 → blank i n)
    let next := fun (i k : Nat) => records k ∧ seq i < seq k ∧ (∀ m, records m → seq i < seq m → seq k ≤ seq m) ∧
      ∀ m < k, records m → seq m ≠ seq k
    ∃ t, exec (.storeMountEnd answered) s = .next t ∧ t.su.mountEnded = true ∧
      let noRoom : Prop := ∀ b ∈ t.rcu.blocks, b.st ≠ .free ∧ (b.st = .opened → 1023 ≤ b.written) ∧ ∀ e, b.st ≠ .erasing e
      let full : Prop := (∃ p, s.su.held = some p ∧ p.stopPolicy = true ∧ (t.rcu.blocks.filter (·.st == .free)).length < 2) ∨
        noRoom ∨ t.rcu.newest = some 0xFFFFFFFE
      let drops : Prop := locked = false ∧ answered = true ∧ noRoom ∧ s.rcu.queue ≠ [] ∧
        ∀ i k n before, s.rcu.port ≠ some (.record i k n before)
      (locked = true → t.rcu.store = .locked) ∧
      (locked = false → answered = false → t.rcu.store = .fault ∧
        (s.ocu.alarms = [] → t.ocu.alarms = [⟨.storeFault, .raised, s.indexNow, 0⟩])) ∧
      (locked = false → answered = true →
        (full → t.rcu.store = .full ∧ (s.ocu.alarms = [] → t.ocu.alarms = [⟨.storeFull, .raised, s.indexNow, 0⟩])) ∧
        (¬full → t.rcu.store = .ready)) ∧
      (answered = true → t.rcu.fails = 0 ∧ t.rcu.blocks.length = 64 ∧ ((∀ i, ¬records i) → t.rcu.newest = none) ∧
        t.rcu.owed = (if locked then [] else ((List.range 64).filter fun j => mark j == 0xFF && count j != 0xFFFFFFFF &&
          (seq j == 0xFFFFFFFF) != (first j == 0xFFFFFFFF)).map .badMark) ∧
        (∀ i n, newest i → written i n →
          t.rcu.newest = (if first i + n ≤ 1 then none else some (first i + n - 1)) ∧
          (s.su.held = none → ∃ b, t.rcu.blocks[i]? = some b ∧ b.written = n ∧ b.seq = some (seq i) ∧
            b.first = some (first i) ∧ b.lim = none ∧
            b.st = (if mark i ≠ 0xFF then .bad else if n < 1023 then .opened else .full))) ∧
        (s.su.held = none → ∀ j < 64, ¬newest j →
          ∃ lim, t.rcu.blocks[j]? = some { mountBlock locked high (hdr j) with lim := lim } ∧
            (records j → ∀ k, next j k → lim = some (first k - 1)) ∧
            (records j → (∀ k, records k → seq k ≤ seq j) → lim = none))) ∧
      (¬drops → t.rcu.queue = s.rcu.queue ∧ t.rcu.ring = s.rcu.ring ∧ t.rcu.discarded = s.rcu.discarded) ∧
      (drops → s.rcu.ring = [] → t.rcu.queue = [] ∧ t.rcu.ring = [] ∧
        t.rcu.discarded = min 65535 (s.rcu.discarded + s.rcu.queue.length)) ∧
      t.rcu.resv = s.rcu.resv ∧ t.flash = s.flash ∧ t.lnk = s.lnk ∧ t.ctu = s.ctu ∧
      t.wsc = s.wsc ∧ t.bsq = s.bsq ∧ t.tmu = s.tmu) ∧
  ∀ (locked : Bool) (high : Nat) (h : List Byte), h.length = 32 →
    let b := mountBlock locked high h
    let count := rd32 h 0
    let mark := rd8 h 4
    let seq := rd32 h 5
    let first := rd32 h 9
    let field := fun (n : Nat) => if n = 0xFFFFFFFF then none else some n
    (mark ≠ 0xFF → b.st = .bad ∧ b.erases = (field count).getD high ∧ b.seq = field seq ∧ b.first = field first) ∧
    (mark = 0xFF → count = 0xFFFFFFFF → b.st = (if locked then .bad else .erasing .due) ∧ b.erases = high ∧ b.seq = none ∧
      b.first = none) ∧
    (mark = 0xFF → count ≠ 0xFFFFFFFF → b.erases = count ∧
      (seq = 0xFFFFFFFF → first = 0xFFFFFFFF → b.st = .free) ∧
      ((seq = 0xFFFFFFFF ↔ first ≠ 0xFFFFFFFF) → b.st = .bad ∧ cutShortOpening h = true) ∧
      (seq ≠ 0xFFFFFFFF → first ≠ 0xFFFFFFFF → b.st = .full ∧ b.seq = some seq ∧ b.first = some first))

/-! ## The cell link (chapter 1) -/

/-- The quiet timer runs out in LISTEN (R14): on an idle line the station leaves LISTEN, JOINING when its self-check passed
and HELD_CHECK when it failed, and sends the cold-start frame, slot s of round 0, without a table; while a frame is being
heard it waits for that frame's end, and an unreadable end then sends the cold-start frame. That the station is JOINING or
HELD_CHECK, with its quiet timer stopped, from the build of the cold-start frame on is the model's reading (assumption 17). -/
def Obligations.QuietTimerSendsTheColdStartFrame : Prop :=
  ∀ s : State, s.Ready → s.lnk.st = .listen → s.lnk.silenced = false →
    let cold := fun (t : State) =>
      t.lnk.st = (if s.su.failed = [] then .joining else .heldCheck) ∧ t.lnk.slot = s.stn ∧ t.lnk.round = 0 ∧
      t.lnk.quiet = .stopped ∧ t.lnk.cold = true ∧ t.lnk.roster = s.lnk.roster ∧
      ∃ f : Frame, t.lnk.line = .sending f.chars ∧ f.sender = s.stn ∧ f.round = 0 ∧ f.state = t.lnk.st ∧
        f.flags.noTable = true ∧ f.digest = 0 ∧ f.sec = none ∧ f.role = s.su.straps.role
    (s.lnk.quiet = .running → s.lnk.line = .idle → ∃ t, exec .quietTimerExpiry s = .next t ∧ cold t) ∧
    (s.lnk.quiet = .running → s.lnk.line ≠ .idle →
      exec .quietTimerExpiry s = .next (finish { s with lnk := { s.lnk with quiet := .due } })) ∧
    ∀ lv, ∀ c ∈ [Instr.unreadableFrameEnd lv, .frameIdleEnd lv], s.lnk.line = .hearing →
      (s.lnk.quiet = .due → ∃ t, exec c s = .next t ∧ cold t) ∧
      (s.lnk.quiet = .running → ∃ t, exec c s = .next t ∧ t.lnk = { s.lnk with line := .idle })

/-- The first character on an idle line begins a frame (R2); on a line that is not idle the model takes it for no new frame
(assumption 4). A frame that ends unreadable, at a stop-bit violation or after 4 idle character times (R2), ends its slot: the
counter moves on by one, past slot 7 into the next round, and no roster entry changes (R8, R9). -/
def Obligations.FrameBeginsAndUnreadableEndsItsSlot : Prop :=
  ∀ (lv : Levels) (s : State), s.Ready →
    (s.lnk.line = .idle → exec .frameBegin s = .next (finish { s with lnk := { s.lnk with line := .hearing } })) ∧
    (s.lnk.line ≠ .idle → exec .frameBegin s = .next (finish s)) ∧
    (s.lnk.st ≠ .listen → s.lnk.line = .hearing → s.lnk.slot < 8 →
    ∀ c ∈ [Instr.unreadableFrameEnd lv, .frameIdleEnd lv], ∃ t, exec c s = .next t ∧
      t.lnk.slot = (s.lnk.slot + 1) % 8 ∧ t.lnk.round = (if s.lnk.slot = 7 then s.lnk.round + 1 else s.lnk.round) ∧
      t.lnk.roster = s.lnk.roster ∧ t.tmu.levels = lv ∧ t.lnk.line = .idle)

/-- An ACTIVE station that hears an unreadable frame in another station's slot enters RESYNC (R57): every copy mark but those
of the fixed sections shows "not copied", the replica keeps its contents, the watch stands at 0, the vote is no (R58), the
claims stay, the RESYNC alarm is raised. So does one that hears, in its place, a table sender of its plan with a lower number
and another digest (R56). -/
def Obligations.UnreadableFrameOrOtherDigestBringsResync : Prop :=
  let raised := fun (s t : State) => s.ocu.alarms = [] → ∃ e ∈ t.ocu.alarms, e.code = .resync ∧ e.st = .raised
  ∀ (lv : Levels) (s : State) (p : Plan), s.Ready → s.lnk.st = .active → s.su.held = some p → s.lnk.line = .hearing →
    s.lnk.slot ≠ s.stn →
    (∀ c ∈ [Instr.unreadableFrameEnd lv, .frameIdleEnd lv], ∃ t, exec c s = .next t ∧ t.lnk.st = .resync ∧
      t.ctu.copied = (List.range 14).map (fun n => decide (2 * p.windows + 1 ≤ n) && decide (n < 13)) ∧
      t.ctu.watch = some 0 ∧ t.ctu.rep = s.ctu.rep ∧ t.ctu.refused = s.ctu.refused ∧ t.wsc.voteRec = none ∧
      t.wsc.vote = false ∧ t.wsc.claims = s.wsc.claims ∧ raised s t) ∧
    ∀ chars f r, checkFrame chars = some f → f.sender < s.stn → f.sender = s.lnk.slot → f.round = s.lnk.round →
      f.state = .active → f.flags.noTable = false → f.planId = p.id → s.ctu.rep = some r → f.digest ≠ r.digest →
      (∀ n ∈ f.notes, n ≠ .restart s.stn) →
      ∃ t, exec (.readableFrameEnd chars lv) s = .next t ∧ t.lnk.st = .resync ∧ t.ctu.watch = some 0 ∧ t.wsc.voteRec = none ∧
        t.wsc.vote = false ∧ raised s t

/-- A slot that ends in silence (R9, R13): the counter moves on by one, past slot 7 into the next round; the entry of another
station counts the silence, and becomes not present with count 0 and vote no at the third; the station's own entry and every
other entry stay. At the end of the third silent slot of a present station (R13, R60) its entry is no longer present, and in
an ACTIVE station the absence effect is applied to every window of the plan. That STATION_ABSENT is that silent slot end is
the model's reading (assumption 8). -/
def Obligations.SilentSlotsCountAndTheThirdMakesAbsent : Prop :=
  (∀ (lv : Levels) (s : State), s.Ready → s.lnk.line = .idle → s.lnk.follows = true → s.lnk.slot < 8 →
    ∃ t, exec (.slotSilence lv) s = .next t ∧
      t.lnk.slot = (s.lnk.slot + 1) % 8 ∧ t.lnk.round = (if s.lnk.slot = 7 then s.lnk.round + 1 else s.lnk.round) ∧
      t.tmu.levels = lv ∧
      t.lnk.roster = (if s.lnk.slot = s.stn then s.lnk.roster else s.lnk.roster.modify s.lnk.slot fun e =>
        if !e.present then e else if 3 ≤ e.silent + 1 then { e with present := false, silent := 0, vote := false }
        else { e with silent := e.silent + 1 })) ∧
  ∀ (lv : Levels) (s : State), s.Ready → s.absenceDue = true →
    ∃ t, exec (.stationAbsent lv) s = .next t ∧ (t.lnk.entry s.lnk.slot).present = false ∧
      (t.lnk.entry s.lnk.slot).silent = 0 ∧ (t.lnk.entry s.lnk.slot).vote = false ∧
      ∀ p r, s.lnk.st = .active → s.su.held = some p → s.ctu.rep = some r →
        t.ctu.rep = some (r.absent p (fun _ => true) s.lnk.slot)

/-- The third own slot without a frame read back whole (R18): the station is in LISTEN with its quiet timer started, its queue
emptied, its table discarded and its scheduler cleared; it keeps its plan and its roster; its duties are given up, and a motion
of the track under way will end with no note (R124). That TRANSMIT_FAILURE is the end of a
silent own slot at which the count reaches 3 is the model's reading (assumption 8). -/
def Obligations.TransmitFailureReturnsToListen : Prop :=
  ∀ (lv : Levels) (s : State), s.Ready → s.transmitFailureDue = true →
    ∃ t, exec (.transmitFailure lv) s = .next t ∧ t.lnk.st = .listen ∧ t.lnk.silenced = false ∧ t.lnk.quiet = .running ∧
      t.lnk.txFail = 0 ∧ t.lnk.queue = [] ∧ t.lnk.waiting = [] ∧ t.lnk.roster = s.lnk.roster ∧ t.su.held = s.su.held ∧
      t.ctu = { rep := none, copied := List.replicate 14 false, watch := none, refused := s.ctu.refused } ∧
      t.wsc = ⟨[], .stopped, false, [], none, false, [], []⟩ ∧ (∀ e ∈ t.bsq.work, e.mark = .drop) ∧ t.tmu.duty = false ∧
      t.tmu.feedMute = true ∧ t.tmu.unloadMute = true ∧ t.rcu.fetch = none ∧ t.rcu.retr = []

/-- The eighth slot end without a table sender (R33): the station holds a fresh table and every copy mark shows "copied", and
with the other join conditions met it is ACTIVE (R34) and takes up its duties: the clamp of its window closes, the beam is as
its home sensor says, an elevator is NO_MAGAZINE or begins homing, and a pending push record is a push fault (R124). The
twenty-fourth slot end without a table sender (R59): the station is ACTIVE again with the RESYNC watch stopped and the RESYNC
alarm ended, and no claim in its table belongs to a station that its roster shows not present. That FRESH_START and
RESYNC_WATCH_EXPIRY are the ends of those silent slots is the model's reading (assumption 8). -/
def Obligations.WatchesEndInAFreshTableOrInActive : Prop :=
  (∀ (lv : Levels) (s : State), s.Ready → s.freshStartDue = true → s.lnk.st = .joining → s.seat.isSome = true →
    s.lnk.slot ≠ s.stn →
    ∃ t, exec (.freshStart lv) s = .next t ∧ t.ctu.copied = List.replicate 14 true ∧
      t.ctu.rep = some { win := List.replicate 6 none, railIn := none, railOut := none, index := 0, phase := .opened,
                         clampSet := 0, holds := 0, magInput := ⟨0, []⟩, magGood := ⟨0, []⟩, magReject := ⟨0, []⟩,
                         loaded := 0, good := 0, reject := 0, written := 0 } ∧
      t.lnk.st = (if s.su.failed = [] ∧ s.su.mountEnded = true then .active else .joining) ∧
      (t.lnk.st = .active → t.tmu.duty = true ∧
        (t.ownWindow.isSome = true → t.tmu.clamp = (if lv.clampClosed then .closed else .closing)) ∧
        (t.actsFeed = true → t.tmu.feedDuty = true ∧ t.tmu.feedMute = false ∧
          t.tmu.beam = (if lv.beamHome then .home else .fault) ∧
          (lv.input.present = false → t.tmu.elInput.st = .noMagazine) ∧
          (lv.input.present = true → lv.input.home = false → t.tmu.elInput.st = .homing ∧ t.tmu.elInput.cur = none) ∧
          (s.tmu.pushIn.pending ≠ none → t.tmu.pushIn = { s.tmu.pushIn with st := .fault })) ∧
        (t.actsUnload = true → t.tmu.unloadDuty = true ∧ t.tmu.unloadMute = false ∧
          (lv.good.present = false → t.tmu.elGood.st = .noMagazine) ∧ (lv.reject.present = false → t.tmu.elReject.st = .noMagazine) ∧
          (lv.good.present = true → lv.good.home = false → t.tmu.elGood.st = .homing ∧ t.tmu.elGood.cur = none) ∧
          (lv.reject.present = true → lv.reject.home = false → t.tmu.elReject.st = .homing ∧ t.tmu.elReject.cur = none) ∧
          (s.tmu.pushOut.pending ≠ none → t.tmu.pushOut = { s.tmu.pushOut with st := .fault })))) ∧
  ∀ (lv : Levels) (s : State) (p : Plan), s.Ready → s.resyncDue = true → s.su.held = some p → s.lnk.slot ≠ s.stn →
    s.ctu.rep.isSome = true →
    ∃ t r, exec (.resyncWatchExpiry lv) s = .next t ∧ t.lnk.st = .active ∧ t.ctu.watch = none ∧ t.ctu.rep = some r ∧
      (∀ i n, s.ocu.alarms = [⟨.resync, .raised, i, n⟩] → ∃ e ∈ t.ocu.alarms, e.code = .resync ∧ e.st = .clearedUnacked) ∧
      ∀ k < 8, (t.lnk.entry k).present = false → ∀ w ∈ p.wins, ∀ x, r.win? w = some x → ∀ e ∈ x.units, e.claims k = 0

/-- The station's own slot has begun on an idle line, no frame has gone out in it and its deadline has not passed (R11): it
sends the frame built from the state of this moment (R3, R4, R20, R22); else FRAME_BUILD does nothing. The frame's notes are,
in this order: from ACTIVE and RESYNC the table-changing notes of the queue in creation order, each CLAIM checked again and
one that fails dropped (R21); an INDEX_START when the index starts (R78); the addressed notes of the queue; the fetch engine's
notes. Each source stops at its first note without room, which waits with those behind it. The queue's notes that the frame
carries are marked in flight, the others keep their order. The vote-yes flag is the vote, and clear with a CLAIM in the frame
(R22). The in-ready and out-ready flags follow (R131, R135). That an unfit table-changing note holds back no addressed note
(assumption 47), that the vote is formed before CLAIMs are dropped (assumption 48), and that a request that takes a dropped
CLAIM's place flies in a later frame (assumption 65), and that of the rounds sent in only the last is remembered (assumption
71), are the model's choices; that a SKIP queued before RESYNC is passed over until the return (R71, assumption 64) is its
reading. -/
def Obligations.FrameBuildSendsTheFrameOfItsSlot : Prop :=
  (∀ s : State, s.Ready → s.lnk.Fits → s.rcu.OutAddressed → s.lnk.st ≠ .listen → s.lnk.slot = s.stn → s.lnk.line = .idle →
    s.lnk.noSend = false → s.lnk.sentRound ≠ some s.lnk.round →
    ∃ (t : State) (f : Frame) (front start addr out kept more : List Note), exec .frameBuild s = .next t ∧
      t.lnk.line = .sending f.chars ∧ t.lnk.sentRound = some s.lnk.round ∧ t.lnk.slot = s.lnk.slot ∧
      t.lnk.round = s.lnk.round ∧ t.lnk.roster = s.lnk.roster ∧ t.wsc.vote = s.voteNow ∧
      f.sender = s.stn ∧ f.round = s.lnk.round ∧ f.state = s.lnk.st ∧ f.role = s.su.straps.role ∧
      f.planId = (if s.lnk.st = .heldCheck then 0 else ((s.su.held.map (·.id)).getD s.su.stagedId)) ∧
      f.flags.feed = s.su.straps.feed ∧ f.flags.unload = s.su.straps.unload ∧ f.flags.textReady = s.ocu.textReady ∧
      f.flags.checkPassed = s.su.failed.isEmpty ∧ f.flags.noTable = !(s.lnk.st == .active || s.lnk.st == .resync) ∧
      f.flags.planWanted = (s.lnk.st == .joining && s.su.held.isNone) ∧ f.flags.inReady = s.inReady ∧
      f.flags.outReady = s.outReady ∧ f.flags.voteYes = (s.voteNow && !f.notes.any Note.isClaim) ∧
      f.digest = (if s.lnk.st = .active ∨ s.lnk.st = .resync then (s.ctu.rep.map Table.digest).getD 0 else 0) ∧
      f.sec = (if s.lnk.st = .active then s.ctu.rep.map fun r =>
          ((s.lnk.round.toNat + s.stn) % 14, r.body ((s.lnk.round.toNat + s.stn) % 14)) else none) ∧
      let notes := s.lnk.queue.map (·.note)
      let waits := fun (n : Note) => s.lnk.st == .resync && (match n with
        | .skip .. => true
        | _ => false)
      let changing :=
        if s.lnk.st = .active ∨ s.lnk.st = .resync then notes.filter (fun n => n.cls == .table && !waits n) else []
      let addressed := notes.filter (·.cls == .addressed)
      let room := fun (before : List Note) (n : Note) =>
        decide (before.length < 12) && decide (({ f with notes := before }).chars.length + 1 + n.encode.length ≤ 640)
      let claims := fun (l : List Note) => l.filterMap fun n => match n with
        | .claim w u g => some (w, u, g)
        | _ => none
      let passed := fun (l : List Note) => l.foldl (fun acc n => match n with
        | .claim w u g => if s.recheck (claims acc) w u g then acc ++ [n] else acc
        | _ => acc ++ [n]) []
      let flying := fun (c : NoteClass) =>
        ((t.lnk.queue.filter (·.inFlight)).map (·.note)).filter fun n => n.cls == c
      f.notes = passed front ++ start ++ addr ++ out ∧ front <+: changing ∧
      (∀ a n b, front = a ++ n :: b → room (passed a) n = true) ∧
      (∀ n b, changing = front ++ n :: b → room (passed front) n = false) ∧
      start = (if room (passed front) .indexStart && s.startsIndex then [.indexStart] else []) ∧
      addr <+: addressed ∧ (∀ n b, addressed = addr ++ n :: b → room (passed front ++ start ++ addr) n = false) ∧
      out <+: s.rcu.outNotes ∧ (∀ n b, s.rcu.outNotes = out ++ n :: b → room f.notes n = false) ∧
      (∀ n ∈ f.notes, n.cls = .table → s.lnk.st = .active ∨ s.lnk.st = .resync) ∧
      flying .table = passed front ∧ flying .addressed = addr ∧ t.rcu.outFlight = out.length ∧
      (t.lnk.queue ++ t.lnk.waiting).map (·.note) = kept ++ s.lnk.waiting.map (·.note) ++ more ∧ kept.Sublist notes ∧
      kept.length + front.length = notes.length + (passed front).length ∧
      (passed front = front → more = [] ∧ t.wsc.claims = s.wsc.claims)) ∧
  (∀ s : State, s.Ready → s.maySend = false → exec .frameBuild s = .next (finish s)) ∧
  ∀ s : State,
    let stands := fun (t : Table) (m : MagName) => (s.tmu.elev m).st = .atSlot ∧
      ∃ i, (s.tmu.elev m).cur = some i ∧ (t.mag m).presence = 1 ∧ (t.mag m).slots[i]? = some 0
    let suits := fun (t : Table) (m : MagName) => ∀ p x, s.su.held = some p → t.win? (p.windows - 1) = some x →
      (goodStrip x = true ↔ m = .good)
    (s.inReady = true ↔ ∃ t, s.table = some t ∧ s.actsFeed = true ∧ s.tmu.beam = .home ∧ (t.railIn.isSome = true ∨
      (s.tmu.pushIn.st = .idle ∧
        (s.tmu.elInput.st = .noMagazine ∨ s.tmu.elInput.st = .atSlot ∨ s.tmu.elInput.st = .seeking) ∧
        (t.magInput.presence ≠ 1 ∨ ∀ k ∈ t.magInput.slots, k ≠ 1)))) ∧
    (s.outReady = true ↔ ∃ t, s.table = some t ∧ s.actsUnload = true ∧ t.railOut = none ∧ s.tmu.pushOut.st = .idle ∧
      ((stands t .good ∧ stands t .reject) ∨ ∃ m, (m = .good ∨ m = .reject) ∧ stands t m ∧ suits t m))

/-- A built frame holds at most 12 notes and 640 characters, its end marker included (R2, R5, R20), whatever waits in the
queues, as long as the section it carries has the length sections have. -/
def Obligations.BuiltFramesKeepTheirLimits : Prop :=
  ∀ s : State, (∀ n r, s.ctu.rep = some r → (r.body n).length ≤ 600) →
    s.build.frame.notes.length ≤ 12 ∧ s.build.frame.chars.length + 1 ≤ 640

/-- The station does not begin its frame in its slot, idle or with a character heard first, or its frame just built is taken
back before it begins (R11), or is stopped at a character read back that differs (R16): the in-flight marks are cleared and
every note stays in its place (R23); the station may build again only in a slot that begins anew. The model's choices: the
line shows the station's own fragment after a mismatch (assumption 16); a frame stopped in cold start returns the station to
LISTEN with its quiet timer started (R16), and that return is taken as an entry to LISTEN: queue, table, fetch and retractions
end (assumption 17); the cold-start frame has no deadline (assumption 4). -/
def Obligations.FrameNotSentKeepsItsNotes : Prop :=
  ∀ s : State, s.Ready →
    let kept : Lnk := { s.lnk with queue := s.lnk.queue.map fun q => { q with inFlight := false } }
    let back : Rcu := { s.rcu with outFlight := 0 }
    (s.lnk.st ≠ .listen → s.lnk.slot = s.stn → s.lnk.line = .idle ∨ s.lnk.line = .hearing →
      s.lnk.sentRound ≠ some s.lnk.round →
      exec .sendDeadlineMissed s = .next (finish { s with lnk := { kept with noSend := true }, rcu := back })) ∧
    (∀ sent, s.lnk.st ≠ .listen → s.lnk.slot = s.stn → s.lnk.line = .sending sent → s.lnk.cold = false →
      exec .sendDeadlineMissed s = .next (finish
        { s with lnk := { kept with noSend := true, line := .idle, sentRound := none }, rcu := back })) ∧
    (∀ sent, s.lnk.line = .sending sent → s.lnk.cold = true → exec .sendDeadlineMissed s = .next (finish s)) ∧
    (∀ sent, s.lnk.line = .sending sent → s.lnk.cold = false →
      exec .readBackMismatch s = .next (finish { s with lnk := { kept with line := .fragment }, rcu := back })) ∧
    (∀ sent, s.lnk.line = .sending sent → s.lnk.cold = true →
      ∃ t, exec .readBackMismatch s = .next t ∧ t.lnk.st = .listen ∧ t.lnk.quiet = .running ∧ t.lnk.cold = false ∧
        t.lnk.line = .fragment ∧ t.lnk.queue = [] ∧ t.lnk.waiting = [] ∧ t.lnk.roster = s.lnk.roster ∧
        t.su.held = s.su.held ∧ t.ctu.rep = none ∧ t.wsc.claims = [] ∧ t.rcu.fetch = none ∧ t.rcu.outRec = [] ∧
        t.rcu.outEnd = none ∧ t.rcu.retr = [])

/-- A readable frame heard outside LISTEN from another station (R7, R10, R12): the counter stands behind the sender's slot, and
the sender's entry takes everything the header says with its silent count at 0. A frame up to 7 positions ahead first counts
each slot skipped as silent, but for the own one; with positions behind or far apart no other entry changes. A JOINING or
HELD_CHECK frame of a station that was ACTIVE or RESYNC shows it rejoined: an ACTIVE station applies its absence (R60). A
readable frame takes a station out of LISTEN (R15): JOINING when its self-check passed, HELD_CHECK when it failed, at the slot
behind the frame's in the frame's round, the quiet timer stopped. The alarms FEED_ABSENT and UNLOAD_ABSENT follow the roster
that the frame leaves (R171). -/
def Obligations.ReadableFrameUpdatesItsEntryOrEndsListen : Prop :=
  (∀ (chars : List Byte) (lv : Levels) (s : State) (f : Frame), s.Ready → checkFrame chars = some f → s.lnk.line = .hearing →
    s.lnk.st ≠ .listen → f.sender ≠ s.stn → s.lnk.slot < 8 → (∀ n ∈ f.notes, n ≠ .restart s.stn) →
    let position := fun (round : Half) (slot : Nat) => round.toNat * 8 + slot
    let ahead := (position f.round f.sender + 524288 - position s.lnk.round s.lnk.slot) % 524288
    let silent := fun (e : RosterEntry) =>
      if !e.present then e else if 3 ≤ e.silent + 1 then { e with present := false, silent := 0, vote := false }
      else { e with silent := e.silent + 1 }
    let skipped := (List.range (if ahead ≤ 7 then ahead else 0)).map fun i => (s.lnk.slot + i) % 8
    let counted := (skipped.filter (· != s.stn)).foldl (fun (l : List RosterEntry) k => l.modify k silent) s.lnk.roster
    ∃ t, exec (.readableFrameEnd chars lv) s = .next t ∧ t.tmu.levels = lv ∧
      t.lnk.slot = (f.sender + 1) % 8 ∧ t.lnk.round = (if f.sender = 7 then f.round + 1 else f.round) ∧
      t.lnk.roster = counted.modify f.sender fun _ =>
        ⟨true, some f.state, some f.role, f.flags, f.planId, f.flags.voteYes, 0⟩) ∧
  (∀ (chars : List Byte) (lv : Levels) (s : State) (f : Frame) (p : Plan) (r : Table), s.HearsInPlace chars f →
    s.lnk.st = .active → s.su.held = some p → s.ctu.rep = some r → f.notes = [] →
    let e := s.lnk.entry f.sender
    ∃ t, exec (.readableFrameEnd chars lv) s = .next t ∧
      (e.present = true → e.last = some .active ∨ e.last = some .resync → f.state = .joining ∨ f.state = .heldCheck →
        t.ctu.rep = some (r.absent p (fun _ => true) f.sender) ∧ t.lnk.st = .active) ∧
      (e.present = false ∨ (e.last ≠ some .active ∧ e.last ≠ some .resync) → f.state = .joining ∨ f.state = .heldCheck →
        t.ctu.rep = some r ∧ t.lnk.st = .active)) ∧
  (∀ (chars : List Byte) (lv : Levels) (s : State) (f : Frame), s.HearsInPlace chars f → (∀ n ∈ f.notes, n ≠ .restart s.stn) →
    ∃ t, exec (.readableFrameEnd chars lv) s = .next t ∧
      let shown := fun (flag : HFlags → Bool) => ∃ e ∈ t.lnk.roster, e.present = true ∧ flag e.flags = true ∧
        (e.last = some .active ∨ e.last = some .resync)
      let follows := fun (a : Alarm) (before after : Bool) (flag : HFlags → Bool) =>
        (after = true ↔ ¬shown flag) ∧
        (before = false → after = true → s.ocu.alarms = [] → ∃ e ∈ t.ocu.alarms, e.code = a ∧ e.st = .raised) ∧
        (before = true → after = false → ∀ i n, s.ocu.alarms = [⟨a, .raised, i, n⟩] →
          ∃ e ∈ t.ocu.alarms, e.code = a ∧ e.st = .clearedUnacked)
      follows .feedAbsent s.ocu.feedAbs t.ocu.feedAbs (·.feed) ∧
      follows .unloadAbsent s.ocu.unloadAbs t.ocu.unloadAbs (·.unload)) ∧
  ∀ (chars : List Byte) (lv : Levels) (s : State) (f : Frame), s.Ready → checkFrame chars = some f → s.lnk.line = .hearing →
    s.lnk.st = .listen → s.lnk.silenced = false → f.sender ≠ s.stn → (∀ n ∈ f.notes, n ≠ .restart s.stn) →
    ∃ t, exec (.readableFrameEnd chars lv) s = .next t ∧
      t.lnk.st = (if s.su.failed = [] then .joining else .heldCheck) ∧ t.lnk.quiet = .stopped ∧
      t.lnk.slot = (f.sender + 1) % 8 ∧ t.lnk.round = (if f.sender = 7 then f.round + 1 else f.round)

/-- A duplicate of the own station number silences the station (R17): LISTEN without a quiet timer, nothing queued, the table
discarded, no claim kept, the sequencer's work to be dropped, DUPLICATE_STATION raised. That the alarm is raised behind the
discard of the table, so that its entry shows index count 0, is the model's choice (assumption 49). A station so silenced
stays in that LISTEN and begins no frame, whatever command comes, until POWER_ON or a readable frame with a RESTART addressed
to it. -/
def Obligations.DuplicateNumberSilencesTheStation : Prop :=
  (∀ (chars : List Byte) (lv : Levels) (s : State) (f : Frame), s.Ready → checkFrame chars = some f → s.lnk.line = .hearing →
    f.sender = s.stn → ¬(s.lnk.st = .listen ∧ s.lnk.silenced = true) →
    ∃ t, exec (.readableFrameEnd chars lv) s = .next t ∧ t.lnk.st = .listen ∧ t.lnk.silenced = true ∧
      t.lnk.quiet = .stopped ∧ t.lnk.queue = [] ∧ t.lnk.waiting = [] ∧ t.ctu.rep = none ∧ t.wsc.claims = [] ∧
      (∀ e ∈ t.bsq.work, e.mark = .drop) ∧ t.maySend = false ∧ (∀ sent, t.lnk.line ≠ .sending sent) ∧
      (s.ocu.alarms = [] → ∃ e ∈ t.ocu.alarms, e.code = .duplicateStation ∧ e.st = .raised ∧ e.index = 0) ∧
      exec .quietTimerExpiry t = .next (finish t)) ∧
  ∀ (c : Instr) (s t : State), s.lnk.st = .listen → s.lnk.silenced = true → (∀ sent, s.lnk.line ≠ .sending sent) →
    (∀ x lv, c ≠ .powerOn x lv) →
    (∀ chars lv f, c = .readableFrameEnd chars lv → checkFrame chars = some f → .restart s.stn ∉ f.notes) →
    exec c s = .next t → t.lnk.st = .listen ∧ t.lnk.silenced = true ∧ ∀ sent, t.lnk.line ≠ .sending sent

/-- Conflicts and RESTART (R35 to R38). A frame of another plan from a lower-numbered station with a table drops an ACTIVE or
RESYNC station to JOINING: plan, staging, table and claims go, reservations return, the sequencer's work ends and its head
parks, the table-changing notes leave the queue and the addressed ones stay; from a higher one nothing is applied. A duty is
lost to a lower-numbered station with the same flag, and stays lost until restart or power-on. A RESTART addressed to this
station, in whatever state it hears notes, begins the restart sequence, each block in the state of R38, no note behind it
handled, no motion of the track ending with a note (R124), no elevator in FAULT (R38, R128) (a table-changing note of its
frame comes before it, R7). The order of the restart sequence (assumption 21), IDLE before the PARK of a RESTART is done
(assumption 80), the index count 0 of PLAN_CONFLICT (assumption 49), the end of the clamp wait with the feed duty (assumption
50), and the discard of the table-changing requests that wait for room (assumption 55) are the model's choices; that a RESTART
parks the head whatever its position, in HELD_CHECK and before LISTEN was first left too (assumption 23), that it takes an
elevator out of FAULT (assumption 82), and that a duty is lost in any state outside LISTEN (assumption 43), are its
readings. -/
def Obligations.ConflictsAndRestartEndTheWork : Prop :=
  let cleared : Wsc := ⟨[], .stopped, false, [], none, false, [], []⟩
  let raised := fun (a : Alarm) (s t : State) => s.ocu.alarms = [] → ∃ e ∈ t.ocu.alarms, e.code = a ∧ e.st = .raised
  (∀ (chars : List Byte) (lv : Levels) (s : State) (f : Frame) (p : Plan), s.HearsInPlace chars f →
    s.lnk.st = .active ∨ s.lnk.st = .resync → s.su.held = some p → f.state = .active ∨ f.state = .resync →
    f.flags.noTable = false → f.planId ≠ p.id →
    (∀ n ∈ f.notes, n ≠ .restart s.stn ∧ ∀ id off bs, n ≠ .plan id off bs) →
    (f.sender < s.stn → ∃ t more, exec (.readableFrameEnd chars lv) s = .next t ∧ t.lnk.st = .joining ∧
      t.su.held = none ∧ t.su.staging = [] ∧ t.su.stagedId = 0 ∧ t.su.joinWatch = none ∧ t.planWanted = true ∧
      t.ctu = { rep := none, copied := List.replicate 14 false, watch := none, refused := s.ctu.refused } ∧
      t.wsc = cleared ∧ (∀ e ∈ t.bsq.work, e.mark = .drop) ∧
      (s.bsq.out = none → t.bsq.work = [] ∧ t.bsq.cursor = none) ∧
      (s.bsq.out = none → s.bsq.st = .running ∨ s.bsq.st = .idle → s.bsq.head ≠ .parked → s.headFree = true →
        ∃ o, t.bsq.out = some o ∧ o.cmd = .park) ∧
      t.tmu.duty = false ∧ t.tmu.feedDuty = false ∧ t.tmu.unloadDuty = false ∧ t.tmu.feedMute = true ∧
      t.tmu.unloadMute = true ∧ t.lnk.queue ++ t.lnk.waiting = (s.lnk.queue ++ s.lnk.waiting).filter (·.note.cls != .table) ++ more ∧
      (∀ q ∈ more, q.producer = .rcu) ∧ (s.rcu.queue = [] → t.rcu.ring = s.rcu.ring) ∧
      (t.rcu.resv = s.rcu.resv.filter fun v =>
        !s.wsc.claims.any fun e => v.strip == e.strip && v.unit == e.unit && v.group == e.group) ∧
      raised .planConflict s t ∧ ∀ e ∈ t.ocu.alarms, s.ocu.alarms = [] → e.code = .planConflict → e.index = 0) ∧
    (s.stn < f.sender → s.lnk.st = .active → ∃ t, exec (.readableFrameEnd chars lv) s = .next t ∧ t.lnk.st = .active ∧
      t.ctu = s.ctu ∧ t.su.held = some p)) ∧
  (∀ (chars : List Byte) (lv : Levels) (s : State) (f : Frame), s.HearsInPlace chars f → f.sender < s.stn →
    f.sender < s.lnk.roster.length → (∀ n ∈ f.notes, n ≠ .restart s.stn) →
    (s.su.straps.feed = true → s.su.feedLost = false → f.flags.feed = true →
      ∃ t, exec (.readableFrameEnd chars lv) s = .next t ∧ t.su.feedLost = true ∧ t.tmu.feedDuty = false ∧
        t.wsc.clampWait = false ∧ t.wsc.voteRec = none ∧ raised .feedConflict s t) ∧
    (s.su.straps.unload = true → s.su.unloadLost = false → f.flags.unload = true →
      ∃ t, exec (.readableFrameEnd chars lv) s = .next t ∧ t.su.unloadLost = true ∧ t.tmu.unloadDuty = false ∧
        raised .unloadConflict s t)) ∧
  (∀ s : State, (s.su.feedLost = true → s.actsFeed = false ∧ s.inReady = false ∧ s.startsIndex = false) ∧
    (s.su.unloadLost = true → s.actsUnload = false ∧ s.outReady = false)) ∧
  (∀ (c : Instr) (s t : State), exec c s = .next t → (∀ x lv, c ≠ .powerOn x lv) → t.su.run = .running →
    (s.su.feedLost = true → t.su.feedLost = true) ∧ (s.su.unloadLost = true → t.su.unloadLost = true)) ∧
  ∀ (chars : List Byte) (lv : Levels) (s : State) (f : Frame) (r : List Note), f.notes = .restart s.stn :: r →
    (s.HearsInPlace chars f ∧ f.flags.noTable = true ∧ ∀ n ∈ r, n.cls ≠ .table) ∨
      (s.Ready ∧ s.lnk.line = .hearing ∧ checkFrame chars = some f ∧ s.lnk.st = .listen ∧ s.lnk.silenced = true ∧
        f.sender ≠ s.stn ∧ f.sender = s.lnk.slot ∧ f.round = s.lnk.round) →
    ∃ t, exec (.readableFrameEnd chars lv) s = .next t ∧ t.su.run ≠ .running ∧ t.su.straps = s.su.straps ∧
      t.su.held = none ∧ t.su.staging = [] ∧ t.su.stagedId = 0 ∧ t.su.ignored = 0 ∧ t.su.feedLost = false ∧
      t.su.unloadLost = false ∧ t.su.joinWatch = none ∧ t.su.mountEnded = true ∧
      t.lnk.st = .listen ∧ t.lnk.silenced = false ∧ t.lnk.quiet = .stopped ∧ t.lnk.queue = [] ∧ t.lnk.waiting = [] ∧
      t.lnk.roster = List.replicate 8 ⟨false, none, none, .clear, 0, false, 0⟩ ∧ t.lnk.txFail = 0 ∧ t.maySend = false ∧
      t.ctu = ⟨none, List.replicate 14 false, none, 0⟩ ∧ t.wsc = cleared ∧ t.bsq.work = [] ∧ t.bsq.cursor = none ∧
      (s.bsq.st = .halted ∨ s.bsq.st = .spoolOut → t.bsq.st = s.bsq.st ∧ t.bsq.out = s.bsq.out) ∧
      (s.bsq.st ≠ .halted → s.bsq.st ≠ .spoolOut → t.bsq.st = .idle ∧ (∀ o, s.bsq.out = some o → t.bsq.out = some o) ∧
        (s.bsq.out = none → ∃ o, t.bsq.out = some o ∧ o.cmd = .park)) ∧
      t.tmu.duty = false ∧ t.tmu.feedDuty = false ∧ t.tmu.unloadDuty = false ∧ t.tmu.feedMute = true ∧
      t.tmu.unloadMute = true ∧ t.tmu.clamp = s.tmu.clamp ∧ (∀ m, (t.tmu.elev m).st ≠ .fault) ∧
      t.tmu.beam = s.tmu.beam ∧ t.tmu.pushIn.pending = s.tmu.pushIn.pending ∧
      t.tmu.pushOut.pending = s.tmu.pushOut.pending ∧
      t.rcu.store = s.rcu.store ∧ t.rcu.blocks = s.rcu.blocks ∧ t.rcu.resv = [] ∧ t.rcu.retr = [] ∧ t.rcu.fetch = none ∧
      t.rcu.outRec = [] ∧ t.rcu.outEnd = none ∧
      (s.rcu.port = none → t.rcu.queue = [] ∧ t.rcu.ring = [] ∧
        t.rcu.discarded = min 65535 (s.rcu.discarded + s.rcu.queue.length) ∧
        t.rcu.lost = min 65535 (s.rcu.lost + s.rcu.ring.length)) ∧
      t.ocu.alarms = [] ∧ t.ocu.overflow = 0 ∧ t.ocu.textQ = [] ∧ t.ocu.keyQ = [] ∧ t.ocu.changed = List.range 20 ∧
      t.ocu.hist = List.replicate 32 (List.replicate 64 ⟨0x20#8, false⟩)

/-- The places of the note queue (R19, R23): a request goes behind every note queued or waiting; after a request, a frame
read back whole and a note taken out, the queue and then the waiting requests hold the notes left in the order in which they
were made, at most 24 of them in the queue, and one waits only while all 24 places are taken. When the station's own frame
has been read back whole, its notes addressed to others, the notes in flight have left the queue, the others stand before
what the handling adds, without the SKIPs whose request has left the list when the index has begun or the station is in
RESYNC (R71; in which of these states they leave is the model's reading, assumption 64); the transmit failure count is 0
(R18); the notes of the fetch output queue that flew have left it, and with its FETCH_END the fetch has ended (R158, R162).
-/
def Obligations.NoteQueueIsFirstInFirstOut : Prop :=
  (∀ (chars : List Byte) (lv : Levels) (s : State) (f : Frame), s.Ready → s.lnk.Fits → s.lnk.line = .sending chars →
    checkFrame chars = some f → f.sender = s.stn → f.sender = s.lnk.slot → f.round = s.lnk.round → s.lnk.st ≠ .listen →
    s.wsc.skips = [] → (∀ n ∈ f.notes, n.cls = .addressed ∧ n.target ≠ some s.stn) →
    ∃ t more, exec (.readableFrameEnd chars lv) s = .next t ∧ (∀ q ∈ more, q.inFlight = false) ∧
      let stays := fun (q : QNote) => match q.note with
        | .skip .. => (t.table.map fun x => decide (t.lnk.st = .active ∧ x.phase = .opened)).getD true
        | _ => true
      t.lnk.queue ++ t.lnk.waiting = (s.lnk.queue.filter (fun q => !q.inFlight) ++ s.lnk.waiting).filter stays ++ more ∧
      t.lnk.txFail = 0 ∧ t.lnk.okRound = some s.lnk.round ∧ t.lnk.line = .idle ∧ t.rcu.outFlight = 0 ∧
      (s.rcu.outFlight ≤ s.rcu.outRec.length → t.rcu.outRec = s.rcu.outRec.drop s.rcu.outFlight ∧
        t.rcu.outEnd = s.rcu.outEnd ∧ t.rcu.fetch = s.rcu.fetch) ∧
      (s.rcu.outRec.length < s.rcu.outFlight → t.rcu.outRec = [] ∧ t.rcu.outEnd = none ∧ t.rcu.fetch = none)) ∧
  ∀ l : Lnk, l.Fits →
    let all := fun (x : Lnk) => x.queue ++ x.waiting
    let sound := fun (x : Lnk) => x.queue.length ≤ 24 ∧ (x.waiting = [] ∨ x.queue.length = 24)
    (∀ by_ n, all (l.request by_ n) = all l ++ [⟨n, by_, false⟩] ∧ sound (l.request by_ n)) ∧
    (all l.sent = l.queue.filter (fun q => !q.inFlight) ++ l.waiting ∧ sound l.sent) ∧
    (∀ f, all (l.takeOut f) = l.queue.filter (fun q => q.inFlight || !f q.note) ++ l.waiting.filter (fun q => !f q.note) ∧
      sound (l.takeOut f))

/-- The addressed notes as they are taken (R159, R162 to R164, R172), each the one note of a frame heard in its place. A FETCH
is answered BUSY while a fetch runs or the store mounts, STORE_FAULT in FAULT, and else taken with its range fixed; for a
maximum of 0 or an empty range it closes at once. A CANCEL of the scanning fetch's tag discards its RECORD notes and closes it
with ABORTED; any other does nothing. A RETRACT is answered REFUSED or NOT_FOUND, or enters the retraction list. TEXT bytes
enter the text queue up to 96, the rest dropped and counted. A note for another station does nothing, and neither does a FETCH
with a code not defined (R179). Which of its fields make a FETCH one of these (assumption 26), COUNT for a maximum of 0 over
an empty range (assumption 62), and a list that no longer counts the retraction under way (assumption 63) are the model's
readings. -/
def Obligations.AddressedNotesAreTakenByTheirOwner : Prop :=
  ∀ (chars : List Byte) (lv : Levels) (s : State) (f : Frame), s.HearsInPlace chars f → f.flags.noTable = true →
    let r := s.rcu
    let heard := fun (n : Note) (p : State → Prop) => f.notes = [n] → ∃ t, exec (.readableFrameEnd chars lv) s = .next t ∧ p t
    let sends := fun (n : Note) (t : State) => (⟨n, .rcu, false⟩ : QNote) ∈ t.lnk.queue ++ t.lnk.waiting
    let fetching := fun (t : State) => t.rcu.fetch = r.fetch ∧ t.rcu.outRec = r.outRec ∧ t.rcu.outEnd = r.outEnd
    let listed := fun (t : State) => t.rcu.retr.map fun x => (x.tag, x.number, x.requester)
    let texts := fun (t : State) => t.ocu.textQ = s.ocu.textQ ∧ t.ocu.textReady = s.ocu.textReady ∧
      t.ocu.textDropped = s.ocu.textDropped
    let untouched := fun (t : State) => fetching t ∧ listed t = listed s ∧ texts t
    (∀ n k, n.target = some k → k ≠ s.stn → heard n untouched) ∧
    (∀ q : FetchNote,
      let defined : Prop := q.kinds < 8 ∧ q.verdicts < 32 ∧ q.cmp ≤ 3 ∧ q.skip ≤ 1
      let last := if q.last = 0xFFFFFFFF then r.newest.getD 0 else min q.last (r.newest.getD 0)
      let start := max q.first (r.oldest.getD 0)
      let empty := r.oldest.isNone || decide (last < start)
      let fetch := fun (closing : Bool) => some (⟨q.tag, f.sender, start, last, q.kinds, q.strip, q.verdicts, q.cmp, q.value,
        q.skip == 1, q.max, start, 0, 0, 0, 0, closing⟩ : Fetch)
      heard (.fetch s.stn q) fun t => listed t = listed s ∧ texts t ∧
        (¬defined → fetching t) ∧
        (defined → r.fetch.isSome = true ∨ r.store = .mounting → fetching t ∧ sends (.fetchEnd f.sender q.tag 4 0 0 0 0) t) ∧
        (defined → r.fetch = none → r.store = .fault → fetching t ∧ sends (.fetchEnd f.sender q.tag 3 0 0 0 0) t) ∧
        (defined → r.fetch = none → r.store ≠ .mounting → r.store ≠ .fault → t.rcu.outRec = r.outRec ∧
          (q.max = 0 → t.rcu.fetch = fetch true ∧ t.rcu.outEnd = some (.fetchEnd f.sender q.tag 1 0 0 0 0)) ∧
          (q.max ≠ 0 → empty = true → t.rcu.fetch = fetch true ∧
            t.rcu.outEnd = some (.fetchEnd f.sender q.tag 0 0 0 0 0)) ∧
          (q.max ≠ 0 → empty = false → t.rcu.fetch = fetch false ∧ t.rcu.outEnd = r.outEnd))) ∧
    (∀ tag, heard (.cancel s.stn tag) fun t => listed t = listed s ∧ texts t ∧
      (∀ g, r.fetch = some g → g.tag = tag → g.closing = false → t.rcu.outRec = [] ∧
        t.rcu.fetch = some { g with matches_ := g.matches_ - r.outRec.length, closing := true } ∧
        t.rcu.outEnd = some (.fetchEnd g.requester tag 2 (g.matches_ - r.outRec.length) g.last g.lost g.bad) ∧
        ∀ b i live, r.port = some (.read b i live) → t.rcu.port = some (.read b i false)) ∧
      ((∀ g, r.fetch = some g → g.tag ≠ tag ∨ g.closing = true) → fetching t)) ∧
    (∀ tag number, heard (.retract s.stn tag number) fun t => fetching t ∧ texts t ∧
      let answer := fun (code : Nat) => sends (.answer f.sender tag code) t ∧ listed t = listed s
      let there : Prop := ∃ lo hi, r.oldest = some lo ∧ r.newest = some hi ∧ lo ≤ number ∧ number ≤ hi
      let shut : Prop := r.store = .mounting ∨ r.store = .locked ∨ r.store = .fault
      (shut → answer 3) ∧ (¬shut → ¬there → answer 1) ∧ (¬shut → there → 4 ≤ r.retr.length → answer 3) ∧
      (¬shut → there → r.retr.length < 4 → listed t = listed s ++ [(tag, number, f.sender)])) ∧
    ∀ bs, heard (.text s.stn bs) fun t => fetching t ∧ listed t = listed s ∧
      t.ocu.textQ = s.ocu.textQ ++ bs.take (96 - s.ocu.textQ.length) ∧
      t.ocu.textDropped = min 65535 (s.ocu.textDropped + (bs.length - (96 - s.ocu.textQ.length))) ∧
      t.ocu.textReady = (s.ocu.textReady && decide (t.ocu.textQ.length < 72))

/-! ## Bytes of notes, frames and sections (chapter 11) -/

/-- Every note whose fields fit their bytes is read back from its bytes, whatever follows it (R179); every frame a station can
send is readable, and the receive checker gives back the very frame (R6, R178, R179). -/
def Obligations.NotesAndFramesAreReadBackFromTheirBytes : Prop :=
  (∀ (n : Note) (rest : List Byte), n.fits = true → Note.decode (n.encode ++ rest) = some (n, rest)) ∧
  ∀ f : Frame, f.fits = true → checkFrame f.chars = some f

/-- The fourteen section bodies of a table, taken one after the other over any table of the same plan, make that table
(R48, R52, R180, R181): no field of a table is lost on the link. -/
def Obligations.FourteenSectionsMakeTheWholeTable : Prop :=
  ∀ (p : Plan) (t old : Table), t.fits p = true → old.fits p = true →
    (List.range 14).foldl (fun o n => o.bind (takeBody p n (t.body n))) (some old) = some t

/-! ## The cell table (chapters 3, 4, 6 and 7) -/

/-- An ACTIVE station applies the table-changing notes of a frame in their order, each to the table the one before it left,
and counts each refused one (R49, R50). The frame is another station's, heard in its place, or the station's own, read back
whole; its sender is ACTIVE or RESYNC, holds the same plan, and gives no cause for RESYNC (R56). What one note applied does in
the other blocks: INDEX_START stops the takt timer, ends the skip requests, starts the clamp wait of the feed station, opens
the clamp of the owned window and parks an IDLE head (R71, R73, R79, R80, R107, R125); INDEX_DONE starts the takt timer and
closes the clamp (R73, R81, R82, R110, R126); the CLAMP_OPEN that completes the set starts a HOME beam, and reports another
(R127); an own CLAIM is handed to the sequencer, or released at once (R63, R92); an own DONE or RELEASE ends its claim (R63);
the pusher that reported the note leaves REPORTING (R132, R136, R138); the elevator that waited for its MAGAZINE LOADED
chooses its target (R129); of a strip unloaded or written off no trace waits any longer (R139, R145); QUALITY_HOLD is raised
by a failing result of this station and ends with its last hold (R120). An own note refused puts its pusher in FAULT and ends
its claim. -/
def Obligations.NotesOfAFrameAreAppliedInOrder : Prop :=
  ∀ (chars : List Byte) (lv : Levels) (s : State) (f : Frame) (p : Plan) (r : Table), s.Ready → s.lnk.st = .active →
    s.su.held = some p → s.ctu.rep = some r → checkFrame chars = some f →
    (s.lnk.line = .hearing ∧ f.sender ≠ s.stn) ∨ (s.lnk.line = .sending chars ∧ f.sender = s.stn) →
    f.round = s.lnk.round → f.sender = s.lnk.slot → f.state = .active ∨ f.state = .resync → f.planId = p.id →
    s.stn ≤ f.sender ∨ f.digest = r.digest ∨ f.state = .resync → (∀ n ∈ f.notes, n ≠ .restart s.stn) →
    let done := (f.notes.filter fun n => n.cls == .table).foldl (fun (x : Table × Nat) n =>
      match judge p ⟨f.sender, f.state, f.flags⟩ x.1 n with
      | some r' => (r', x.2)
      | none => (x.1, min 65535 (x.2 + 1))) (r, s.ctu.refused)
    (∃ t, exec (.readableFrameEnd chars lv) s = .next t ∧ t.lnk.st = .active ∧ t.su.held = some p ∧
      t.ctu = { s.ctu with rep := some done.1, refused := done.2, watch := t.ctu.watch }) ∧
    ∀ n, f.notes = [n] → n.cls = .table →
      let own : Prop := f.sender = s.stn
      let sent := fun (t : State) (k : Producer) (m : Note) => (⟨m, k, false⟩ : QNote) ∈ t.lnk.queue ++ t.lnk.waiting
      let pushes : Prop := (∃ a b, n = .load a b) ∨ (∃ a b c, n = .unload a b c) ∨ ∃ a b c, n = .writeOff a b c
      let ends := fun (t : State) => ∀ w u g x, own → n = .done w u g x ∨ n = .release w u g x → ∀ c ∈ t.wsc.claims,
        c.held = true → ¬(c.win = w ∧ c.unit = u ∧ c.group = g)
      (judge p ⟨f.sender, f.state, f.flags⟩ r n = none → ∃ t, exec (.readableFrameEnd chars lv) s = .next t ∧ ends t ∧
        ∀ k, own → pushes → (s.tmu.push k).st = .reporting n → t.tmu.push k = { s.tmu.push k with st := .fault }) ∧
      ∀ r', judge p ⟨f.sender, f.state, f.flags⟩ r n = some r' →
        ∃ t, exec (.readableFrameEnd chars lv) s = .next t ∧ ends t ∧
          (n = .indexStart → p.windows ≠ 0 → t.wsc.takt = .stopped ∧ t.wsc.skips = [] ∧ t.wsc.clampWait = t.actsFeed ∧
            t.tmu.transfer = false ∧ t.tmu.beamStarted = false ∧
            (∀ w, s.tmu.duty = true → s.ownWindow = some w →
              t.tmu.clamp = (if s.tmu.clamp = .opened then .opened else .opening) ∧
              (s.tmu.clamp = .opened → sent t .tmu (.clampOpen w))) ∧
            (s.bsq.st = .idle → s.bsq.out = none → s.bsq.head ≠ .parked → s.headFree = true →
              ∃ o, t.bsq.out = some o ∧ o.cmd = .park)) ∧
          (∀ k sh, n = .indexDone k sh → t.wsc.takt = .running ∧ t.wsc.clampWait = false ∧ (sh = 1 → t.wsc.pulls = []) ∧
            ∀ w, s.tmu.duty = true → s.ownWindow = some w →
              t.tmu.clamp = (if s.tmu.clamp = .closed then .closed else .closing)) ∧
          (∀ w, n = .clampOpen w → (∀ k < p.windows, r'.clampSet.getLsbD k = true) →
            (∃ k < p.windows, r.clampSet.getLsbD k = false) → t.wsc.clampWait = false ∧
            (s.tmu.feedDuty = true → s.tmu.beam = .home →
              t.tmu.beam = .moving ∧ t.tmu.beamStarted = true ∧ t.tmu.transfer = false) ∧
            (s.tmu.feedDuty = true → s.tmu.beam ≠ .home → t.tmu.beam = s.tmu.beam ∧ sent t .tmu (.indexFault 2 0xFF)) ∧
            (s.tmu.feedDuty = false → t.tmu.beam = s.tmu.beam)) ∧
          (∀ w u g e, own → n = .claim w u g →
            s.wsc.claims.find? (fun c => !c.held && (c.win == w && c.unit == u && c.group == g)) = some e →
            let shut : Prop := s.wsc.takt = .expired ∨ s.bsq.st = .finishing ∨ s.bsq.st = .paused
            ({ e with held := true } ∈ t.wsc.claims) ∧
            (¬shut → s.bsq.out.isSome = true ∨ s.bsq.st = .halted ∨ s.bsq.st = .spoolOut →
              t.bsq = { s.bsq with work := s.bsq.work ++ [⟨w, u, g, e.strip, .none⟩]
                                   st := if s.bsq.st = .idle then .running else s.bsq.st }) ∧
            (shut → sent t .wsc (.release w u g
              (if g = 4 then 0 else (((r'.unit? w u).bind (·.groups[g]?)).map (·.progress)).getD 0)))) ∧
          (∀ k, own → pushes → (s.tmu.push k).st = .reporting n → t.tmu.push k = ⟨.idle, none⟩) ∧
          (∀ m sl, own → n = .magazine (MagName.code m) 1 sl → (s.tmu.elev m).waiting = true →
            let code := if m = .input then 1 else 0
            (t.tmu.elev m).waiting = false ∧ ∀ i, (t.tmu.elev m).target = some i ↔ (r'.mag m).presence = 1 ∧
              (r'.mag m).slots[i]? = some code ∧ ∀ j < i, (r'.mag m).slots[j]? ≠ some code) ∧
          (∀ id, (∃ a b, n = .unload id a b) ∨ (∃ a b, n = .writeOff id a b) →
            ∀ x ∈ t.rcu.ring, x.strip = id → x.writing = true ∨ x.outcome ≠ none) ∧
          (∀ x, n = .pullResult x → x.group ≠ 4 → x.verdict = 1 ∨ x.verdict = 2 → x.bonder = s.stn → s.ocu.alarms = [] →
            ∃ e ∈ t.ocu.alarms, e.code = .qualityHold ∧ e.st = .raised) ∧
          (∀ k, n = .holdOff k → (∀ c < 4, r'.hold s.stn c = false) → (∃ c < 4, r.hold s.stn c = true) →
            ∀ i m, s.ocu.alarms = [⟨.qualityHold, .raised, i, m⟩] →
              ∃ e ∈ t.ocu.alarms, e.code = .qualityHold ∧ e.st = .clearedUnacked)

/-- The copier (R33, R51 to R55, R59). A section of a table sender's frame is taken when it is not copied and its body can be
read: the replica takes the body and its mark is set. The last section makes a RESYNC station ACTIVE at once; a JOINING one
takes each body with its own earlier claims ended (R60), and is ACTIVE at the slot's end with the join conditions met (R34).
A note with an undefined code is refused and counted whatever is copied (R179). Any other is judged when every section it
reads is copied, and its effect on an uncopied section 0 dropped; otherwise it is not counted and the sections it writes are
copied no longer. An applied INDEX_DONE with shift moves the marks with the strips; an unreadable frame clears all but the
fixed ones. A half of the own window taken in RESYNC is compared with the own claims (R58): one it does not show is lost with
its reservation, and its entry in the work list is gone or at the head with the mark DROP (R104); one it shows that is not
held is released with the progress shown. That the marks of a window's two halves move jointly (assumption 24), and that a
unit of 48 or more has the second half (assumption 26), and which fields of a note hold codes (assumption 76), are the
model's readings. -/
def Obligations.CopierTakesSectionsAndKeepsThemByNotes : Prop :=
  (∀ (chars : List Byte) (lv : Levels) (s : State) (f : Frame) (p : Plan) (r : Table), s.HearsInPlace chars f →
    s.lnk.st = .resync ∨ s.gathering = true → s.su.held = some p → s.ctu.rep = some r → s.ctu.copied.length = 14 →
    f.state = .active → f.flags.noTable = false → f.planId = p.id →
    let reach := fun (q : State → Prop) => ∃ t, exec (.readableFrameEnd chars lv) s = .next t ∧ q t
    let copied := fun (k : Nat) => s.ctu.copied[k]? = some true
    (∀ n body, f.sec = some (n, body) → n < 14 → f.notes = [] →
      (copied n ∨ takeBody p n body r = none → s.ctu.copied ≠ List.replicate 14 true → reach fun t => t.lnk.st = s.lnk.st ∧
        t.ctu.rep = some r ∧ t.ctu.copied = s.ctu.copied) ∧
      (∀ r', ¬copied n → takeBody p n body r = some r' → reach fun t => t.ctu.copied = s.ctu.copied.set n true ∧
        (s.lnk.st = .resync → t.ctu.rep = some r' ∧
          (t.ctu.copied = List.replicate 14 true → t.lnk.st = .active ∧ t.ctu.watch = none) ∧
          (t.ctu.copied ≠ List.replicate 14 true → t.lnk.st = .resync ∧ (s.ctu.watch.isSome = true → t.ctu.watch = some 0))) ∧
        (s.lnk.st = .joining → t.ctu.rep = some (r'.absent p (· == n) s.stn) ∧
          (t.lnk.st = .active ↔ t.ctu.copied = List.replicate 14 true ∧ s.su.failed = [] ∧ s.su.mountEnded = true)))) ∧
    (∀ note k body, f.sec = some (k, body) → copied k → s.ctu.copied ≠ List.replicate 14 true → f.notes = [note] →
      note.cls = .table → s.lnk.st = .resync →
      let c : NoteCtx := ⟨f.sender, f.state, f.flags⟩
      let known : Prop := ∀ k ∈ note.reads p, copied k
      let plain : Prop := match note with
        | .claim _ _ g | .release _ _ g _ => g ≤ 4
        | .done _ _ g o => g ≤ 4 ∧ o ≤ 1
        | .indexDone _ shift => shift ≤ 1
        | .indexFault cause w => cause ≤ 4 ∧ (cause = 0 ∨ w = 255)
        | .pullResult x => x.group ≤ 4 ∧ x.mode ≤ 6 ∧ x.verdict ≤ 3
        | .unload _ v _ => v ≤ 1
        | .magazine m ev sl => m ≤ 2 ∧ ev ≤ 1 ∧ ∀ k ∈ sl, k ≤ 1 ∨ (m = 0 ∧ k = 2)
        | .writeOff _ pos sl => pos ≤ 2 ∧ (pos = 0 ∨ sl = 255)
        | _ => True
      reach fun t => t.lnk.st = .resync ∧
        (¬plain ∨ (known ∧ judge p c r note = none) → t.ctu.rep = some r ∧ t.ctu.copied = s.ctu.copied ∧
          t.ctu.refused = min 65535 (s.ctu.refused + 1)) ∧
        (∀ r', plain → known → judge p c r note = some r' → t.ctu.refused = s.ctu.refused ∧
          (copied 0 → t.ctu.rep = some r') ∧
          (¬copied 0 → t.ctu.rep = some { r' with index := r.index, phase := r.phase, clampSet := r.clampSet,
                                                  holds := r.holds, loaded := r.loaded, good := r.good,
                                                  reject := r.reject, written := r.written }) ∧
          ((∀ i, note ≠ .indexDone i 1) → t.ctu.copied = s.ctu.copied) ∧
          (∀ i, note = .indexDone i 1 → t.ctu.copied.length = 14 ∧ ∀ k < 14, t.ctu.copied[k]? = some true ↔
            k = 0 ∨ k = 13 ∨ k = 1 ∨ k = 2 ∨ (2 * p.windows + 1 ≤ k ∧ k < 13) ∨
            ∃ w, (k = 2 * (w + 1) + 1 ∨ k = 2 * (w + 1) + 2) ∧ k < 13 ∧ copied (2 * w + 1) ∧ copied (2 * w + 2))) ∧
        (plain → ¬known → t.ctu.rep = some r ∧ t.ctu.refused = s.ctu.refused ∧ t.ctu.copied.length = 14 ∧
          ∀ k < 14, t.ctu.copied[k]? = some true ↔
            copied k ∧ ((2 * p.windows + 1 ≤ k ∧ k < 13) ∨ k ∉ note.writes)))) ∧
  (∀ (chars : List Byte) (lv : Levels) (s : State) (f : Frame) (p : Plan) (seat : Seat) (r r' : Table) (body : List Byte)
    (second : Bool), s.HearsInPlace chars f → s.lnk.st = .resync → s.su.held = some p → p.seated s.su.straps = some seat →
    s.ctu.rep = some r → f.state = .active → f.flags.noTable = false → f.planId = p.id → f.notes = [] → seat.win < 6 →
    let n := if second then 2 * seat.win + 2 else 2 * seat.win + 1
    let lo := if second then 24 else 0
    s.ctu.copied.length = 14 → s.ctu.copied[n]? = some false → s.ctu.copied.set n true ≠ List.replicate 14 true →
    f.sec = some (n, body) → takeBody p n body r = some r' →
    (∀ x, r'.win? seat.win = some x → ∀ e ∈ x.units, e.groups.length ≤ 4) →
    let half := fun (u : Nat) => decide (lo ≤ u) && decide (u < lo + 24)
    let entry := fun (u : Nat) => (r'.win? seat.win).bind (·.units[u]?)
    let shown := fun (u g : Nat) => ((entry u).map fun e =>
      if g = 4 then e.test == .claimed && e.tester == some s.stn
      else ((e.groups[g]?).map fun y => y.st == .claimed && y.claimer == some s.stn).getD false).getD false
    let lost := s.wsc.claims.filter fun e => e.held && e.win == seat.win && half e.unit && !shown e.unit e.group
    let gone := s.wsc.claims.filter fun e => lost.any fun x => x.win == e.win && x.unit == e.unit && x.group == e.group
    ∃ t, exec (.readableFrameEnd chars lv) s = .next t ∧ t.lnk.st = .resync ∧ t.ctu.rep = some r' ∧
      t.wsc.claims = s.wsc.claims.filter (fun e => !gone.contains e) ∧
      (t.rcu.resv = s.rcu.resv.filter fun v => !gone.any fun e => v.strip == e.strip && v.unit == e.unit && v.group == e.group) ∧
      (∀ w ∈ t.bsq.work, (lost.any fun x => x.win == w.win && x.unit == w.unit && x.group == w.group) = true →
        w.mark = .drop ∧ w ∉ t.bsq.work.drop 1) ∧
      ∀ u g e, half u = true → shown u g = true → entry u = some e →
        (∀ x ∈ s.wsc.claims, x.held = true → x.win = seat.win → x.unit = u → x.group ≠ g) →
        (⟨.release seat.win u g (if g = 4 then 0 else ((e.groups[g]?).map (·.progress)).getD 0), .wsc, false⟩ : QNote) ∈
          t.lnk.queue ++ t.lnk.waiting) ∧
  (∀ (lv : Levels) (s : State) (p : Plan), s.Ready → s.lnk.st = .resync ∨ s.gathering = true → s.su.held = some p →
    s.lnk.line = .hearing → s.lnk.slot ≠ s.stn → s.ctu.watch ≠ some 23 → s.su.joinWatch ≠ some 7 →
    ∃ t, exec (.unreadableFrameEnd lv) s = .next t ∧ t.lnk.st = s.lnk.st ∧ t.ctu.rep = s.ctu.rep ∧
      t.ctu.copied = (List.range 14).map (fun n => decide (2 * p.windows + 1 ≤ n) && decide (n < 13))) ∧
  ∀ (p : Plan) (w u : Nat), w < 6 →
    let half := if u < 24 then 2 * w + 1 else 2 * w + 2
    (∀ g, Note.reads p (.claim w u g) = [0, 2 * w + 1, 2 * w + 2] ∧ (Note.claim w u g).writes = [half]) ∧
    (∀ g x, ∀ n ∈ [Note.skip w u, .done w u g x, .release w u g x], n.reads p = [half] ∧ n.writes = [half]) ∧
    (∀ k, ∀ n ∈ [Note.holdOff k, .clampOpen k, .indexFault k w, .indexDone k 0], n.reads p = [0] ∧ n.writes = [0]) ∧
    Note.reads p .indexStart = 0 :: (List.range p.windows).flatMap halves ∧ Note.indexStart.writes = [0] ∧
    (∀ k, Note.reads p (.indexDone k 1) = [0, 13] ++ halves p.last ∧ (Note.indexDone k 1).writes = List.range 14) ∧
    (∀ n : PullNote, n.win = w → n.unit = u →
      (n.group ≠ 4 → Note.reads p (.pullResult n) = [2 * w + 1, half] ∧
        (Note.pullResult n).writes = [0, 2 * w + 1, half]) ∧
      (n.group = 4 → Note.reads p (.pullResult n) = [0, 2 * w + 1, half] ∧ (Note.pullResult n).writes = [half])) ∧
    ∀ a b c l, (∀ n ∈ [Note.load a b, .writeOff a b c], n.reads p = [0, 13] ∧ n.writes = [0, 13]) ∧
      Note.reads p (.unload a b c) = [13] ∧ (Note.unload a b c).writes = [0, 13] ∧
      Note.reads p (.magazine a b l) = [13] ∧ (Note.magazine a b l).writes = [13]

/-- A CLAIM takes effect exactly when the six conditions of R67 hold, and is refused otherwise. Its whole effect is that the
group, or the test for group code 4, is CLAIMED by the sender; a group keeps its progress. -/
def Obligations.ClaimTakesEffectExactlyUnderItsConditions : Prop :=
  ∀ (p : Plan) (c : NoteCtx) (t : Table) (w u g : Nat),
    let ok : Prop := ∃ seat x e, p.seatOf c.sender = some seat ∧ seat.win = w ∧ t.win? w = some x ∧ x.units[u]? = some e ∧
      t.phase = .opened ∧ u < p.units ∧ e.st = .opened ∧ t.claims c.sender < 2 ∧
      (∀ v e', x.units[v]? = some e' →
        (∃ y ∈ e'.groups, y.st = .claimed ∧ y.claimer ≠ some c.sender) ∨
          (e'.test = .claimed ∧ e'.tester ≠ some c.sender) →
        p.col u + p.keepOut ≤ p.col v ∨ p.col v + p.keepOut ≤ p.col u) ∧
      ((g = 4 ∧ seat.pull = true ∧ x.sampled = true ∧ u ∈ p.tests ∧ e.test = .pending ∧ ∀ y ∈ e.groups, y.st = .done) ∨
        (g ≠ 4 ∧ seat.pull = false ∧ g < p.groupCount ∧ (∃ y, e.groups[g]? = some y ∧ y.st = .pending) ∧
          (∀ i < g, ∀ y, e.groups[i]? = some y → y.st = .done) ∧ p.cls g = seat.cls ∧ t.hold c.sender seat.cls = false))
    let unit := fun (f : UEntry → UEntry) =>
      { t with win := t.win.modify w (Option.map fun x => { x with units := x.units.modify u f }) }
    (ok → judge p c t (.claim w u g) = some (unit fun e =>
      if g = 4 then { e with test := .claimed, tester := some c.sender }
      else { e with groups := e.groups.modify g fun y => { y with st := .claimed, claimer := some c.sender } })) ∧
    (¬ok → judge p c t (.claim w u g) = none)

/-- DONE, RELEASE, SKIP and HOLD_OFF: for each, the conditions under which it takes effect and its whole effect; otherwise it
is refused (R68, R69, R70, R72). Outcome code 0 is BONDED, 1 FAILED. -/
def Obligations.CompletionSkipAndHoldNotesTakeTheirEffects : Prop :=
  ∀ (p : Plan) (c : NoteCtx) (t : Table) (w u g n : Nat),
    let judged := fun (note : Note) (ok : Prop) (t' : Table) =>
      (ok → judge p c t note = some t') ∧ (¬ok → judge p c t note = none)
    let unit := fun (f : UEntry → UEntry) =>
      { t with win := t.win.modify w (Option.map fun x => { x with units := x.units.modify u f }) }
    let group := fun (f : GEntry → GEntry) (e : UEntry) => { e with groups := e.groups.modify g f }
    let mine : Prop := u < p.units ∧ g < p.groupCount ∧ ∃ x e y, t.win? w = some x ∧ x.units[u]? = some e ∧
      e.groups[g]? = some y ∧ y.st = .claimed ∧ y.claimer = some c.sender
    let myTest : Prop := u < p.units ∧ ∃ x e, t.win? w = some x ∧ x.units[u]? = some e ∧ e.test = .claimed ∧
      e.tester = some c.sender
    (g ≠ 4 → judged (.done w u g 0) mine (unit (group fun y => { y with st := .done, progress := p.wireCount g }))) ∧
    (g ≠ 4 → judged (.done w u g 1) mine
      (unit fun e => { group (fun y => { y with st := .failed }) e with st := .failed })) ∧
    (g ≠ 4 → 1 < n → judge p c t (.done w u g n) = none) ∧
    judged (.done w u 4 n) (myTest ∧ n = 0) (unit fun e => { e with test := .done, tester := none, st := .tested }) ∧
    (g ≠ 4 → judged (.release w u g n)
      (mine ∧ n ≤ p.wireCount g ∧ ∀ x e y, t.win? w = some x → x.units[u]? = some e → e.groups[g]? = some y → y.progress ≤ n)
      (unit (group fun y => { y with st := .pending, claimer := none, progress := n }))) ∧
    judged (.release w u 4 n) (myTest ∧ n = 0) (unit fun e => { e with test := .pending, tester := none }) ∧
    judged (.skip w u)
      (c.state = .active ∧ w < p.windows ∧ u < p.units ∧ ∃ x e, t.win? w = some x ∧ x.units[u]? = some e ∧ e.st = .opened ∧
        (∀ y ∈ e.groups, y.st ≠ .claimed) ∧ e.test ≠ .claimed)
      (unit fun e => { e with st := .skipped }) ∧
    judged (.holdOff n) (n < 4 ∧ t.holds.getLsbD (4 * c.sender + n) = true)
      { t with holds := t.holds &&& ~~~(1#32 <<< (4 * c.sender + n)) }

/-- The notes of the index: for each, the conditions under which it takes effect and its effect; otherwise it is refused (R79
to R83). Shift code 1 is shift set, 0 shift clear, any other is refused; cause 0 is CLAMP_TIMEOUT, 1 to 4 the causes of the
feed station. That a cause of 1 to 4 is refused with a window that is not 0xFF is the model's reading (assumption 37). -/
def Obligations.IndexNotesTakeTheirEffects : Prop :=
  ∀ (p : Plan) (c : NoteCtx) (t : Table) (w n : Nat), p.windows ≤ 6 →
    let judged := fun (note : Note) (ok : Prop) (t' : Table) =>
      (ok → judge p c t note = some t') ∧ (¬ok → judge p c t note = none)
    let free : Prop := ∀ k < p.windows, ∀ x, t.win? k = some x → ∀ e ∈ x.units,
      e.test ≠ .claimed ∧ ∀ y ∈ e.groups, y.st ≠ .claimed
    let owner : Prop := (∃ k ∈ p.seats, k.win = w ∧ k.stn = c.sender) ∧ ∀ k ∈ p.seats, k.win = w → c.sender ≤ k.stn
    let open_ : Prop := ∀ k < p.windows, t.clampSet.getLsbD k = true
    let shifts : Prop := c.flags.feed = true ∧ BitVec.ofNat 16 n = t.index + 1 ∧
      ((t.phase = .moving ∧ open_) ∨ t.phase = .fault) ∧ ¬(t.railOut.isSome = true ∧ (t.win? p.last).isSome = true)
    judged .indexStart (c.flags.feed = true ∧ t.phase = .opened ∧ free) { t with phase := .moving, clampSet := 0 } ∧
    judged (.clampOpen w) (t.phase = .moving ∧ w < p.windows ∧ t.clampSet.getLsbD w = false ∧ owner)
      { t with clampSet := t.clampSet ||| (1#8 <<< w) } ∧
    (¬shifts → judge p c t (.indexDone n 1) = none) ∧
    (shifts → ∃ t', judge p c t (.indexDone n 1) = some t' ∧ t'.win.length = 6 ∧
      t'.railOut = (if (t.win? p.last).isSome then t.win? p.last else t.railOut) ∧ t'.railIn = none ∧
      t'.win? 0 = t.railIn ∧ (∀ k < p.last, t'.win? (k + 1) = t.win? k) ∧ (∀ k, p.last < k → t'.win? k = none) ∧
      t' = { t with win := t'.win, railIn := t'.railIn, railOut := t'.railOut, phase := .opened, clampSet := 0,
                    index := t.index + 1 }) ∧
    judged (.indexDone n 0) (c.flags.feed = true ∧ t.phase = .fault ∧ BitVec.ofNat 16 n = t.index)
      { t with phase := .opened, clampSet := 0 } ∧
    (∀ sh, 1 < sh → judge p c t (.indexDone n sh) = none) ∧
    judged (.indexFault n w) (t.phase = .moving ∧ ((n = 0 ∧ owner) ∨ (1 ≤ n ∧ n ≤ 4 ∧ w = 0xFF ∧ c.flags.feed = true)))
      { t with phase := .fault }

/-- The verdict of a pull (R114): by the break mode, the force and the class minimum in the result the WSC sends; NO_RESULT
with force 0 and mode NONE for a wire given up after hook misses and for an untestable unit; and a note whose verdict
disagrees with its force and mode is refused by every station alike. The result names the wire that the pull list gives, the
unit's witness wires group by group (R109) without the leading ones already resulted (R111), with the claim, the recorded
claimer of the group, 0xFF with none, and its class (R115). A test starts at the first wire left, and an applied result of this
station raises the count of those resulted to one past its place in the list (R110, R119). -/
def Obligations.VerdictFollowsForceAndBreakMode : Prop :=
  let pulls := fun (p : Plan) => (List.range p.groups.length).flatMap fun g =>
    ((List.range (p.wireCount g)).filter fun i => ((p.wire? g i).map (·.witness)).getD false).map fun i => (g, i)
  let resulted := fun (w : Wsc) (strip u : Nat) =>
    ((w.pulls.find? fun m => m.strip == strip && m.unit == u).map (·.count)).getD 0
  (∀ force minimum : Nat,
    (∀ m ∈ [BreakMode.neck, .span, .heel], verdictOf (modeCode m) force minimum =
      if minimum ≤ force then Verdict.pass else Verdict.failLow) ∧
    (∀ m ∈ [BreakMode.ballLift, .stitchLift, .padPeel], verdictOf (modeCode m) force minimum = Verdict.failMode)) ∧
  (∀ (s : State) (e : WorkEntry) (r : List WorkEntry) (cur : Cursor) (g i : Nat) (p : Plan), s.su.held = some p →
    s.bsq.work = e :: r → s.bsq.cursor = some cur → e.mark ≠ .drop → ((pulls p).drop cur.base)[cur.idx]? = some (g, i) →
    let bonder := ((s.table.bind fun t => (t.win? e.win).bind fun x => (x.units[e.unit]?).bind fun y =>
      (y.groups[g]?).bind (·.claimer))).getD 0xFF
    let note := fun (force mode verdict : Nat) =>
      Note.pullResult ⟨e.win, e.strip, e.unit, g, i, bonder, p.cls g, force, mode, verdict⟩
    let moved : Bsq := { s.bsq with cursor := some { cur with idx := cur.idx + 1, again := false }, retry := 0 }
    (∀ row col site height force mode, answerCmd (.hookPull row col site height) (.pulled force mode) s =
      place .wsc (note force (modeCode mode) (verdictOf (modeCode mode) force ((p.minForce[p.cls g]?).getD 0)))
        { s with bsq := { moved with head := .atWork } }) ∧
    (p.retryLimit ≤ s.bsq.retry → ∀ row col site height, answerCmd (.hookPull row col site height) .hookMiss s =
      place .wsc (note 0 (modeCode .none) Verdict.noResult) { s with bsq := { moved with head := .atWork } })) ∧
  (∀ (s : State) (p : Plan) (base : Nat), s.su.held = some p → s.pullsLeft base = (pulls p).drop base) ∧
  (∀ (s : State) (e : WorkEntry), e.group = 4 → startClaim e s = { s with
    bsq := { s.bsq with cursor := some ⟨0, resulted s.wsc e.strip e.unit, false, false⟩, retry := 0 } }) ∧
  (∀ (p : Plan) (sender : Nat) (t t' : Table) (n : PullNote) (s : State) (i : Nat), n.group ≠ 4 →
    (pulls p)[i]? = some (n.group, n.wire) →
    resulted (tellApplied p true sender t t' (.pullResult n) s).wsc n.strip n.unit = max (resulted s.wsc n.strip n.unit) (i + 1)) ∧
  (∀ w strip u, ∃ n, untestableNote w strip u = .pullResult n ∧ n.verdict = Verdict.noResult ∧ n.force = 0 ∧
    n.mode = modeCode .none) ∧
  (∀ n : PullNote, n.failing = true ↔ n.verdict = Verdict.failLow ∨ n.verdict = Verdict.failMode) ∧
  (∀ (p : Plan) (c : NoteCtx) (t : Table) (n : PullNote), judge p c t (.pullResult n) ≠ none →
    (n.verdict = Verdict.noResult ∧ n.force = 0 ∧ n.mode = modeCode .none) ∨
    ∃ m : BreakMode, m ≠ .none ∧ n.mode = modeCode m ∧ n.verdict = verdictOf n.mode n.force (p.minOf n.cls))

/-- A PULL_RESULT takes effect exactly under the conditions of R116, or of R118 with group code 4, and is refused otherwise. A
failing verdict sets the strip's pull-fail flag and the hold of the bonding station on the class; a passing one or NO_RESULT
changes nothing; an untestable one ends the unit's test. -/
def Obligations.PullResultTakesEffectExactlyUnderItsConditions : Prop :=
  ∀ (p : Plan) (c : NoteCtx) (t : Table) (n : PullNote),
    let agrees : Prop := (1 ≤ n.mode ∧ n.mode ≤ 6 ∧ n.verdict = verdictOf n.mode n.force (p.minOf n.cls)) ∨
      (n.verdict = Verdict.noResult ∧ n.force = 0 ∧ n.mode = 0)
    let ok : Prop := n.unit < p.units ∧ n.unit ∈ p.tests ∧ n.group < p.groupCount ∧ n.cls = p.cls n.group ∧ agrees ∧
      ∃ x e y wr, t.win? n.win = some x ∧ x.id = n.strip ∧ x.units[n.unit]? = some e ∧ e.test = .claimed ∧
        e.tester = some c.sender ∧ e.groups[n.group]? = some y ∧ y.st = .done ∧ y.claimer = some n.bonder ∧
        p.wire? n.group n.wire = some wr ∧ wr.witness = true
    let untestable : Prop := n.unit < p.units ∧ n.unit ∈ p.tests ∧ t.phase = .opened ∧ n.wire = 0 ∧ n.bonder = 0xFF ∧
      n.cls = 0 ∧ n.force = 0 ∧ n.mode = 0 ∧ n.verdict = Verdict.noResult ∧
      ∃ seat x e, p.seatOf c.sender = some seat ∧ seat.pull = true ∧ seat.win = n.win ∧ t.win? n.win = some x ∧
        x.id = n.strip ∧ x.sampled = true ∧ x.units[n.unit]? = some e ∧ e.test = .pending ∧
        ∃ y ∈ e.groups, y.st = .failed ∨ y.st = .unknown
    (n.group ≠ 4 → ok → judge p c t (.pullResult n) = some (
      if n.verdict = Verdict.failLow ∨ n.verdict = Verdict.failMode then
        { t with win := t.win.modify n.win (Option.map fun x => { x with pullFail := true })
                 holds := t.holds ||| (1#32 <<< (4 * n.bonder + n.cls)) }
      else t)) ∧
    (n.group ≠ 4 → ¬ok → judge p c t (.pullResult n) = none) ∧
    (n.group = 4 → untestable → judge p c t (.pullResult n) = some
      { t with win := t.win.modify n.win (Option.map fun x =>
        { x with units := x.units.modify n.unit fun e => { e with test := .done, tester := none } }) }) ∧
    (n.group = 4 → ¬untestable → judge p c t (.pullResult n) = none)

/-- LOAD, UNLOAD, MAGAZINE and WRITE_OFF take effect exactly under their conditions and are refused otherwise (R130, R133, R137,
R139), with a strip judged good or reject by R134. Slot codes: 0 EMPTY, 1 FULL or FILLED, 2 TAKEN; an event, magazine or
position code above the last is refused. That a WRITE_OFF of IN or OUT with a slot that is not 0xFF, and a MAGAZINE REMOVED
with a slot code not defined, are refused is the model's reading (assumption 37). -/
def Obligations.StripAndMagazineNotesTakeTheirEffects : Prop :=
  ∀ (p : Plan) (c : NoteCtx) (t : Table) (id sl v : Nat) (m : MagName) (map : List Nat),
    let judged := fun (note : Note) (ok : Prop) (t' : Table) =>
      (ok → judge p c t note = some t') ∧ (¬ok → judge p c t note = none)
    let next : Prop := c.flags.feed = true ∧ id = t.loaded.toNat % 65535 + 1 ∧ sl < p.slotsInput ∧
      (t.magInput.presence = 1 → t.magInput.slots[sl]? = some 1)
    let taken : MagRec := if t.magInput.presence = 1 then { t.magInput with slots := t.magInput.slots.set sl 2 } else t.magInput
    let filled : MagRec := if (t.mag m).presence = 1 then { t.mag m with slots := (t.mag m).slots.set sl 1 } else t.mag m
    let mags := fun (r : MagRec) => match m with
      | .input => { t with magInput := r }
      | .good => { t with magGood := r }
      | .reject => { t with magReject := r }
    (∀ x : Strip, goodStrip x = true ↔ x.pullFail = false ∧ ∀ e ∈ x.units, e.st ≠ .failed ∧
      (e.st = .opened → ∀ y ∈ e.groups, y.st = .done) ∧ e.test ≠ .pending ∧ e.test ≠ .claimed) ∧
    judged (.load sl id) (next ∧ t.railIn = none)
      { t with railIn := some ⟨id, sl, id % p.sample == 0, false, 0, (List.range p.units).map fun u =>
                 ⟨.opened, if id % p.sample = 0 ∧ u ∈ p.tests then .pending else .none, none,
                   List.replicate p.groupCount ⟨.pending, none, 0⟩⟩⟩
               magInput := taken, loaded := t.loaded + 1 } ∧
    (∀ x, m ≠ .input → t.railOut = some x → judged (.unload id (if m = .good then 0 else 1) sl)
      (c.flags.unload = true ∧ x.id = id ∧ (m = .good ↔ goodStrip x = true) ∧ sl < p.slots m ∧
        ((t.mag m).presence = 1 → (t.mag m).slots[sl]? = some 0))
      { mags filled with railOut := none, good := if m = .good then t.good + 1 else t.good
                         reject := if m = .good then t.reject else t.reject + 1 }) ∧
    (t.railOut = none ∨ 1 < v → judge p c t (.unload id v sl) = none) ∧
    judged (.magazine (MagName.code m) 0 map)
      ((if m = .input then c.flags.feed else c.flags.unload) = true ∧ ∀ k ∈ map, k ≤ 1 ∨ (m = .input ∧ k = 2)) (mags ⟨0, []⟩) ∧
    judged (.magazine (MagName.code m) 1 map)
      ((if m = .input then c.flags.feed else c.flags.unload) = true ∧ map.length = p.slots m ∧ (∀ k ∈ map, k ≤ 1) ∧
        (m ≠ .input → ∀ i : Nat, map[i]? = some 1 ↔ (t.mag m).presence = 1 ∧ (t.mag m).slots[i]? = some 1))
      (mags ⟨1, map⟩) ∧
    judged (.writeOff id 0 sl) next { t with magInput := taken, loaded := t.loaded + 1, written := t.written + 1 } ∧
    judged (.writeOff id 1 sl) (c.flags.feed = true ∧ sl = 0xFF ∧ ∃ x, t.railIn = some x ∧ x.id = id)
      { t with railIn := none, written := t.written + 1 } ∧
    judged (.writeOff id 2 sl) (c.flags.unload = true ∧ sl = 0xFF ∧ ∃ x, t.railOut = some x ∧ x.id = id)
      { t with railOut := none, written := t.written + 1 } ∧
    (∀ k, 1 < k → judge p c t (.magazine (MagName.code m) k map) = none) ∧
    (∀ k, 2 < k → judge p c t (.magazine k v map) = none) ∧
    ∀ k, 2 < k → judge p c t (.writeOff id k sl) = none

/-- Strips loaded equals the strips in the cell plus those unloaded and written off, and the windows above W(last) are empty
(R40, R140): the fresh table has it, and every note that takes effect keeps it. -/
def Obligations.NotesKeepTheStripCountersBalanced : Prop :=
  ∀ p : Plan, 1 ≤ p.windows → p.windows ≤ 6 →
    freshTable.Balanced p ∧ ∀ (c : NoteCtx) (t t' : Table) (n : Note), t.Balanced p → judge p c t n = some t' → t'.Balanced p

/-- In a table no station holds more than two claims, and claims of different stations on one window lie at least the keep-out
apart (R67): the fresh table has it, and every note that takes effect and every absence keeps it. -/
def Obligations.NotesAndAbsenceKeepTheClaimRules : Prop :=
  ∀ p : Plan, p.windows ≤ 6 →
    let rules := fun (t : Table) => t.win.length = 6 ∧ t.ClaimsBounded ∧ t.ClaimsApart p
    rules freshTable ∧
    (∀ (c : NoteCtx) (t t' : Table) (n : Note), rules t → judge p c t n = some t' → rules t') ∧
    ∀ (f : Nat → Bool) (k : Nat) (t : Table), rules t → rules (t.absent p f k)

/-- The absence effect of a station on windows W0 to W(last) (R60): its CLAIMED groups become UNKNOWN with their claimer and
progress kept, and their units FAILED; its CLAIMED tests return to PENDING; nothing else changes. -/
def Obligations.AbsenceEndsTheClaimsOfAStation : Prop :=
  ∀ (p : Plan) (k : Nat) (t : Table),
    let theirs := fun (y : GEntry) => y.st == .claimed && y.claimer == some k
    let tested := fun (e : UEntry) => e.test == .claimed && e.tester == some k
    let gone := fun (e : UEntry) =>
      { e with st := if e.groups.any theirs then .failed else e.st
               test := if tested e then .pending else e.test
               tester := if tested e then none else e.tester
               groups := e.groups.map fun y => if theirs y then { y with st := .unknown } else y }
    let at_ := fun (o : Option Strip) => o.map fun strip => { strip with units := strip.units.map gone }
    t.absent p (fun _ => true) k = { t with win := t.win.zipIdx.map fun x => if x.2 < p.windows then at_ x.1 else x.1 }

/-! ## Takt, clamp wait and the sequencer (chapters 4 and 5) -/

/-- Selection (R64 to R66) and the check of a CLAIM at frame build (R21). The first eligible task is the lowest eligible
group, or the test, of the first unit of the scan that offers one; a selection takes it with its entry, its CLAIM and its
reservation. A CLAIM is kept at frame build exactly when the table, with the CLAIMs before it in the frame marked, still
allows it, fewer than two claims are held, and in RESYNC the sections it reads are copied. After each event of R66 in an
ACTIVE station, the own claim list holds two entries or no task is eligible. That no task is taken while a request of the
scheduler waits for room in the note queue (R19, assumption 34), and that a waiting skip request bars the test of its unit too
(R71, assumption 41), are the model's readings. -/
def Obligations.SelectionTakesTheFirstEligibleTask : Prop :=
  (∀ (s : State) (p : Plan) (seat : Seat) (t : Table), s.su.held = some p → p.seated s.su.straps = some seat →
    s.table = some t → p.groups.length ≤ 4 → seat.win < 6 →
    let mark := fun (t : Table) (w u g : Nat) => { t with win := t.win.modify w (Option.map fun x =>
      { x with units := x.units.modify u fun e =>
        if g = 4 then { e with test := .claimed, tester := some s.stn }
        else { e with groups := e.groups.modify g fun y => { y with st := .claimed, claimer := some s.stn } } }) }
    let allows := fun (t : Table) (u g : Nat) => ∃ x e, t.win? seat.win = some x ∧ x.units[u]? = some e ∧
      t.phase = .opened ∧ u < p.rows * p.cols ∧ e.st = .opened ∧
      (∀ v e', x.units[v]? = some e' → (∃ y ∈ e'.groups, y.st = .claimed ∧ y.claimer ≠ some s.stn) ∨
        (e'.test = .claimed ∧ e'.tester ≠ some s.stn) → p.col u + p.keepOut ≤ p.col v ∨ p.col v + p.keepOut ≤ p.col u) ∧
      ((g = 4 ∧ seat.pull = true ∧ x.sampled = true ∧ u ∈ p.tests ∧ e.test = .pending ∧ ∀ y ∈ e.groups, y.st = .done) ∨
        (seat.pull = false ∧ g < p.groups.length ∧ (∃ y, e.groups[g]? = some y ∧ y.st = .pending) ∧
          (∀ i < g, ∀ y, e.groups[i]? = some y → y.st = .done) ∧ p.cls g = seat.cls ∧
          t.holds.getLsbD (4 * s.stn + seat.cls) = false))
    let counted := s.wsc.claims.foldl (fun t e => if e.held then t else mark t e.win e.unit e.group) t
    let traced := fun (x : Strip) (u g : Nat) =>
      if x.sampled && p.tests.contains u then ((List.range (p.wireCount g)).filter fun i =>
        decide ((((x.units[u]?).bind (·.groups[g]?)).map (·.progress)).getD 0 ≤ i) &&
          ((p.wire? g i).map (·.witness)).getD false).length
      else 0
    let eligible := fun (u g : Nat) => s.lnk.st = .active ∧ s.wsc.takt = .running ∧
      (s.bsq.st = .running ∨ s.bsq.st = .idle) ∧ s.wsc.claims.length < 2 ∧
      (∀ k ∈ s.wsc.skips, k.win = seat.win → k.unit ≠ u) ∧ allows counted u g ∧
      (seat.pull = false → ∀ x, counted.win? seat.win = some x → traced x u g = 0 ∨
        (traced x u g + s.rcu.ring.length + s.rcu.reserved ≤ 64 ∧ s.rcu.store = .ready))
    let before := fun (u v : Nat) => (if seat.left then p.col u < p.col v else p.col v < p.col u) ∨
      (p.col u = p.col v ∧ p.row u < p.row v)
    let first := fun (u g : Nat) => eligible u g ∧ (∀ h < g, ¬eligible u h) ∧
      ∀ v < p.rows * p.cols, before v u → ∀ h, ¬eligible v h
    let waits : Prop := ∃ q ∈ s.lnk.waiting, q.producer = .wsc
    (∀ u g, s.firstTask false = some (u, g) ↔ first u g) ∧
    (∀ u g x, first u g → t.win? seat.win = some x → ¬waits →
      let n := if g = 4 then 0 else traced x u g
      selectOne s = { s with
        wsc := { s.wsc with claims := s.wsc.claims ++ [⟨seat.win, u, g, x.id, false⟩] }
        rcu := if n = 0 then s.rcu else { s.rcu with resv := s.rcu.resv ++ [⟨x.id, u, g, n⟩] }
        lnk := s.lnk.request .wsc (.claim seat.win u g) }) ∧
    ((∀ u g, ¬eligible u g) ∨ waits → selectOne s = s) ∧
    ∀ placed w u g, s.recheck placed w u g = true ↔ w = seat.win ∧
      (s.wsc.claims.filter (·.held)).length + placed.length < 2 ∧
      allows (placed.foldl (fun t x => mark t x.1 x.2.1 x.2.2) t) u g ∧
      (s.lnk.st = .active ∨ ∀ k ∈ [0, 2 * w + 1, 2 * w + 2], s.ctu.copied[k]? = some true)) ∧
  ∀ (c : Instr) (s t : State), s.Ready → exec c s = .next t → (∀ x lv, c ≠ .powerOn x lv) → t.lnk.st = .active →
    (∃ chars lv, c = .readableFrameEnd chars lv ∧ s.handlesFrame chars = true) ∨
    (∃ e ∈ s.wsc.claims, ∀ x ∈ t.wsc.claims, (x.win, x.unit, x.group) ≠ (e.win, e.unit, e.group)) ∨
    (∃ k ∈ s.wsc.skips, ∀ x ∈ t.wsc.skips, (x.win, x.strip, x.unit) ≠ (k.win, k.strip, k.unit)) ∨
    ((t.bsq.st = .running ∨ t.bsq.st = .idle) ∧ t.bsq.st ≠ s.bsq.st) ∨
    (t.wsc.takt = .running ∧ s.wsc.takt ≠ .running) →
    2 ≤ t.wsc.claims.length ∨ t.firstTask false = none ∨ ∃ q ∈ t.lnk.waiting, q.producer = .wsc

/-- The vote (R76), the vote record (R77) and the decision to start the index (R78). The record starts afresh at the end of each
own frame read back whole on a station acting as feed. A frame of an ACTIVE bond or pull station with the vote-yes flag clear
vetoes it, and so does a slot that ends unheard while the roster shows such a station present; every slot heard or ended adds
its number. It is cleared when the station no longer acts as feed, and when a correction carries the slot counter past an own
slot (R10). That the roster changes before the record looks at the slot (assumption 13), and that a correction to a far position
counts as one past the own slot (assumption 46), are the model's choices. -/
def Obligations.VoteRecordAndIndexStartFollowTheRound : Prop :=
  (∀ s : State, s.voteNow = true ↔ s.lnk.st = .active ∧ s.wsc.claims = [] ∧
    ((s.bsq.head = .parked ∧ s.bsq.out = none) ∨
      ((s.bsq.st = .halted ∨ s.bsq.st = .spoolOut) ∧ s.wsc.takt = .expired)) ∧
    (s.wsc.takt = .expired ∨ ({ s with bsq := { s.bsq with st := .idle } } : State).firstTask false = none) ∧
    ¬(s.ownWindow.isSome = true ∧ s.tmu.clamp = .fault)) ∧
  (∀ (s : State) (t : Table) (p : Plan), s.table = some t → s.su.held = some p →
    (s.startsIndex = true ↔ s.actsFeed = true ∧ t.phase = .opened ∧
      (∀ w < p.windows, ∀ x, t.win? w = some x → ∀ e ∈ x.units, e.test ≠ .claimed ∧ ∀ y ∈ e.groups, y.st ≠ .claimed) ∧
      (∃ v, s.wsc.voteRec = some v ∧ v.vetoed = false ∧ ∀ k < 8, k ≠ s.stn → k ∈ v.ended) ∧ s.voteNow = true ∧
      (∃ a e b, s.lnk.roster = a ++ e :: b ∧
        (∀ x ∈ a, ¬(x.present = true ∧ x.last = some .active ∧ x.flags.unload = true)) ∧
        e.present = true ∧ e.last = some .active ∧ e.flags.unload = true ∧
        ((if s.actsUnload then s.outReady else e.flags.outReady) = true ∨ (t.railOut = none ∧ t.win? p.last = none))) ∧
      s.inReady = true ∧ (t.railIn.isSome = true ∨ ∃ w < p.windows, (t.win? w).isSome = true))) ∧
  (∀ (chars : List Byte) (lv : Levels) (s : State) (f : Frame), s.Ready → checkFrame chars = some f → s.lnk.st ≠ .listen →
    (∀ n ∈ f.notes, n ≠ .restart s.stn) →
    let added := fun (veto : Bool) (k : Nat) (t : State) =>
      (t.actsFeed = false → t.wsc.voteRec = none) ∧
      (t.actsFeed = true → s.actsFeed = true → t.wsc.voteRec = s.wsc.voteRec.map fun v =>
        ⟨v.vetoed || veto, if k ∈ v.ended then v.ended else v.ended ++ [k]⟩)
    let vetoes := f.state == .active && (f.role == .bond || f.role == .pull) && !f.flags.voteYes
    let position := fun (round : Half) (slot : Nat) => round.toNat * 8 + slot
    let ahead := (position f.round f.sender + 524288 - position s.lnk.round s.lnk.slot) % 524288
    let end_ := exec (.readableFrameEnd chars lv) s
    (s.lnk.line = .sending chars → f.sender = s.stn → f.sender = s.lnk.slot → f.round = s.lnk.round →
      ∃ t, end_ = .next t ∧ (t.actsFeed = false → t.wsc.voteRec = none) ∧
        (t.actsFeed = true → s.actsFeed = true → t.wsc.voteRec = some ⟨false, []⟩)) ∧
    (s.lnk.line = .hearing → f.sender ≠ s.stn →
      (f.sender = s.lnk.slot → f.round = s.lnk.round → ∃ t, end_ = .next t ∧ added vetoes f.sender t) ∧
      (s.lnk.slot < 8 → s.stn < 8 → f.sender < 8 →
        (ahead ≤ 7 ∧ (s.stn + 8 - s.lnk.slot) % 8 < ahead) ∨ (8 ≤ ahead ∧ ahead ≤ 524280) →
        ∃ t, end_ = .next t ∧ t.wsc.voteRec = none))) ∧
  ∀ (lv : Levels) (s : State), s.Ready → s.lnk.st ≠ .listen → s.lnk.slot < 8 →
    ∀ c ∈ [Instr.slotSilence lv, .unreadableFrameEnd lv],
      c = .slotSilence lv ∧ s.lnk.line = .idle ∨ c = .unreadableFrameEnd lv ∧ s.lnk.line = .fragment →
      ∃ t, exec c s = .next t ∧
        let e := t.lnk.entry s.lnk.slot
        let veto := e.present && e.last == some .active && (e.role == some .bond || e.role == some .pull)
        (t.actsFeed = false → t.wsc.voteRec = none) ∧
        (t.actsFeed = true → s.actsFeed = true → t.wsc.voteRec = s.wsc.voteRec.map fun v =>
          ⟨v.vetoed || veto, if s.lnk.slot ∈ v.ended then v.ended else v.ended ++ [s.lnk.slot]⟩)

/-- The takt limit runs out (R73, R74, R102, R103): EXPIRED; every QUEUED entry whose CLAIM is not in flight leaves the own
claim list; a HALTED or SPOOL_OUT sequencer releases all its claims at once, the one at the cursor with its wire index; a
RUNNING one marks the claim at the cursor RELEASE and releases the other, or releases all when none has begun and becomes IDLE
at once though a PARK is outstanding (R100), and of these none that is marked DROP is reported (R104, R105); an IDLE one parks
its head. The clamp wait runs out (R80): INDEX_FAULT with cause CLAMP_WAIT is sent. That the IDLE sequencer parks its head
with a CLAIM in flight too (assumption 67), that a RUNNING one releases the claim not at the cursor at once, as R102 has it and R74
has not (assumption 79), and that either expiry does nothing while its timer does not run (assumption 4), are the model's
choices. -/
def Obligations.TaktExpiryAndClampWaitExpiry : Prop :=
  ∀ s : State, s.Ready →
    let sent := fun (t : State) (n : Note) => (⟨n, .wsc, false⟩ : QNote) ∈ t.lnk.queue ++ t.lnk.waiting
    (s.wsc.takt = .running → ∃ t, exec .taktExpiry s = .next t ∧ t.wsc.takt = .expired ∧
      t.wsc.claims = s.wsc.claims.filter (fun e => e.held || s.lnk.noteFlying (.claim e.win e.unit e.group)) ∧
      t.lnk.st = s.lnk.st ∧ t.ctu = s.ctu ∧ t.tmu = s.tmu ∧
      (s.bsq.st = .halted ∨ s.bsq.st = .spoolOut → t.bsq.work = [] ∧ t.bsq.st = s.bsq.st ∧ t.bsq.out = s.bsq.out ∧
        ∀ i e, s.bsq.work[i]? = some e → e.mark ≠ .drop →
          sent t (s.releaseNote e (if i = 0 then s.bsq.cursor else none))) ∧
      (∀ e r c, s.bsq.st = .running → s.bsq.out.isSome = true → s.bsq.work = e :: r → s.bsq.cursor = some c →
        t.bsq = { s.bsq with work := [if e.mark = .none then { e with mark := .release } else e] } ∧
        ∀ x ∈ r, x.mark ≠ .drop → sent t (s.releaseNote x none)) ∧
      (s.bsq.st = .running → s.bsq.out.isSome = true → s.bsq.cursor = none → s.bsq.stop = false →
        t.bsq = { s.bsq with work := [], st := .idle } ∧
        ∀ e ∈ s.bsq.work, e.mark ≠ .drop → sent t (s.releaseNote e none)) ∧
      (s.bsq.st = .idle → s.bsq.work = [] → s.bsq.out = none → s.bsq.head ≠ .parked → s.headFree = true →
        t.bsq = { s.bsq with out := some ⟨.park, s.bsq.nextTag, (s.su.held.map (·.headTimeout)).getD 2000⟩
                             nextTag := s.bsq.nextTag + 1 })) ∧
    (s.wsc.takt ≠ .running → exec .taktExpiry s = .next (finish s)) ∧
    (s.wsc.clampWait = true → exec .clampWaitExpiry s = .next (finish
      { s with wsc := { s.wsc with clampWait := false }, lnk := s.lnk.request .wsc (.indexFault 1 0xFF) })) ∧
    (s.wsc.clampWait = false → exec .clampWaitExpiry s = .next (finish s))

/-- A WIRE is answered in RUNNING or FINISHING (R94 to R96, R100 to R104). DONE hands a wire traced by the replica's sampled
flag to the record unit, moves the cursor on and sends the next WIRE, or ends the claim with DONE BONDED behind the group's
last wire. NSOP, NSOL and NO_BALL send the same wire again below the retry limit, whether or not the claim is to be released,
and at the limit end the claim with DONE FAILED. A claim marked RELEASE is released behind the wire that is bonded, with the
wires bonded as its progress; one marked DROP leaves with no note, no trace and no retry. When a claim leaves, a RUNNING
sequencer starts the next one, whose head is UNPARKed first when it is not at work, or becomes IDLE. -/
def Obligations.WireAnswersMoveTheCursorOrRetry : Prop :=
  ∀ (s : State) (p : Plan) (e : WorkEntry) (r : List WorkEntry) (cur : Cursor) (o : Outstanding) (w : Wire), s.Ready →
    s.su.held = some p → s.bsq.st = .running ∨ s.bsq.st = .finishing → s.bsq.work = e :: r → s.bsq.cursor = some cur →
    e.group ≠ 4 → cur.started = true → s.bsq.out = some o → p.wire? e.group cur.idx = some w →
    o.cmd = .wire (e.unit / p.cols) (e.unit % p.cols) w.site1 w.site2 w.loop w.sched w.witness → s.bsq.stop = false →
    s.bsq.alert = none → s.bsq.enabled = true → s.lnk.st = .active →
    let wire := fun (u : Nat) (v : Wire) => some (⟨.wire (u / p.cols) (u % p.cols) v.site1 v.site2 v.loop v.sched v.witness,
      s.bsq.nextTag, p.headTimeout⟩ : Outstanding)
    let traced : Prop := (∃ t x, s.table = some t ∧ t.win? e.win = some x ∧ x.id = e.strip ∧ x.sampled = true) ∧
      e.unit ∈ p.tests ∧ w.witness = true
    let handed := fun (m : Meas) (r' : Rcu) =>
      (traced → r' = s.rcu.handOff e.strip e.unit e.group cur.idx s.indexNow m s.bsq.retry) ∧ (¬traced → r' = s.rcu)
    let kept := fun (m : Meas) (t : State) => ∃ r', handed m r' ∧ t.rcu.ring = r'.ring ∧ t.rcu.lost = r'.lost
    let sent := fun (n : Note) (t : State) => (⟨n, .wsc, false⟩ : QNote) ∈ t.lnk.queue ++ t.lnk.waiting
    let left := fun (head : HeadPos) (t : State) =>
      (r = [] → t.bsq.work = [] ∧ t.bsq.cursor = none ∧ t.bsq.st = if s.bsq.st = .running then .idle else .finishing) ∧
      ∀ e' r' v, r = e' :: r' → s.bsq.st = .running → e'.mark = .none → e'.group ≠ 4 →
        p.wire? e'.group (s.progress e'.win e'.unit e'.group) = some v →
        t.bsq.work = r ∧ t.bsq.st = .running ∧ t.bsq.retry = 0 ∧
        t.bsq.cursor = some ⟨s.progress e'.win e'.unit e'.group, 0, decide (head = .atWork), false⟩ ∧
        t.bsq.out = if head = .atWork then wire e'.unit v else some ⟨.unpark, s.bsq.nextTag, p.headTimeout⟩
    (∀ m v, e.mark = .none → p.wire? e.group (cur.idx + 1) = some v → ∃ r', handed m r' ∧
      exec (.headCompletion o.tag (.done m)) s = .next (finish { s with
        bsq := { s.bsq with head := .atWork, retry := 0, out := wire e.unit v, nextTag := s.bsq.nextTag + 1
                            cursor := some { cur with idx := cur.idx + 1, again := false } }
        rcu := r' })) ∧
    (∀ m, e.mark ≠ .drop → p.wire? e.group (cur.idx + 1) = none → ∃ t, exec (.headCompletion o.tag (.done m)) s = .next t ∧
      kept m t ∧ left .atWork t ∧ sent (.done e.win e.unit e.group 0) t) ∧
    (∀ m v, e.mark = .release → p.wire? e.group (cur.idx + 1) = some v →
      ∃ t, exec (.headCompletion o.tag (.done m)) s = .next t ∧ kept m t ∧ left .atWork t ∧
        sent (.release e.win e.unit e.group (cur.idx + 1)) t) ∧
    (∀ c ∈ [Completion.nsop, .nsol, .noBall],
      let head : HeadPos := if c = .noBall then .unknown else .atWork
      (e.mark ≠ .drop → s.bsq.retry < p.retryLimit → exec (.headCompletion o.tag c) s = .next (finish { s with
        bsq := { s.bsq with head := head, retry := s.bsq.retry + 1, out := wire e.unit w, nextTag := s.bsq.nextTag + 1
                            cursor := some { cur with again := false } } })) ∧
      (e.mark ≠ .drop → p.retryLimit ≤ s.bsq.retry → ∃ t, exec (.headCompletion o.tag c) s = .next t ∧ left head t ∧
        sent (.done e.win e.unit e.group 1) t)) ∧
    (e.mark = .drop → ∀ c ∈ [Completion.nsop, .nsol, .noBall] ++ [Completion.done ⟨0, 0, 0, 0⟩],
      ∃ t more, exec (.headCompletion o.tag c) s = .next t ∧ left (if c = .noBall then .unknown else .atWork) t ∧
        t.rcu.ring = s.rcu.ring ∧ t.rcu.lost = s.rcu.lost ∧
        t.lnk.queue ++ t.lnk.waiting = s.lnk.queue ++ s.lnk.waiting ++ more ∧
        (r = [] → ∀ q ∈ more, ∀ n, q.note ≠ .done e.win e.unit e.group n ∧ q.note ≠ .release e.win e.unit e.group n))

/-- The other commands are answered (R91, R93, R99 to R101, R104, R108, R111 to R113). PARK leaves the head PARKED, a FINISHING
sequencer PAUSED, and a HALTED one of the pull role, which clears by PARK, at work again. UNPARK is followed by the WIRE at the
cursor. RETHREAD_CHECK takes the sequencer out of HALTED or SPOOL_OUT, into RUNNING with the wire in hand or into IDLE with no
claim. A pull, and a HOOK_MISS at the retry limit, sends its PULL_RESULT and hooks the next wire, or ends the test with DONE
behind the last of the pull list; a HOOK_MISS below the limit hooks the same wire again. A claim marked RELEASE is released
where it would go on; one marked DROP leaves with no note: no DONE, no RELEASE, no result of a pull. -/
def Obligations.ParkUnparkRethreadAndPullAnswers : Prop :=
  ∀ (s : State) (p : Plan) (o : Outstanding) (m : Meas), s.Ready → s.su.held = some p → s.bsq.out = some o →
    s.bsq.stop = false → s.bsq.alert = none → s.bsq.enabled = true → s.lnk.st = .active →
    let done := exec (.headCompletion o.tag (.done m)) s
    let sends := fun (cmd : HeadCmd) (b : Bsq) (s : State) => { s with
      bsq := { b with out := some ⟨cmd, s.bsq.nextTag, p.headTimeout⟩, nextTag := s.bsq.nextTag + 1 } }
    let wire := fun (u : Nat) (w : Wire) =>
      HeadCmd.wire (u / p.cols) (u % p.cols) w.site1 w.site2 w.loop w.sched w.witness
    let hook := fun (u : Nat) (w : Wire) => HeadCmd.hookPull (u / p.cols) (u % p.cols) w.site1 w.loop
    let alarms := (clearAlarm .spoolOut (clearAlarm .headHalted s)).ocu.alarms
    let adds := fun (t : State) (l : List Note) => ∃ more, t.lnk.queue ++ t.lnk.waiting =
      s.lnk.queue ++ s.lnk.waiting ++ l.map (fun n => ⟨n, .wsc, false⟩) ++ more
    let left := fun (t : State) =>
      t.bsq.work = [] ∧ t.bsq.cursor = none ∧ t.bsq.st = if s.bsq.st = .running then .idle else .finishing
    let dropped := fun (e : WorkEntry) (t : State) => left t ∧
      ∃ more, t.lnk.queue ++ t.lnk.waiting = s.lnk.queue ++ s.lnk.waiting ++ more ∧ (s.bsq.st = .finishing → more = []) ∧
        ∀ q ∈ more, (∀ k, q.note ≠ .done e.win e.unit e.group k ∧ q.note ≠ .release e.win e.unit e.group k) ∧
          ∀ n, q.note = .pullResult n → n.group = 4
    let cleared := fun (head : HeadPos) (t : State) => t.bsq.head = head ∧ t.bsq.retry = 0 ∧ t.ocu.alarms = alarms
    let out := fun (cmd : HeadCmd) => some (⟨cmd, s.bsq.nextTag, p.headTimeout⟩ : Outstanding)
    (o.cmd = .park → s.bsq.st = .idle → s.bsq.work = [] → done =
      .next (finish { s with bsq := { s.bsq with head := .parked, out := none } })) ∧
    (o.cmd = .park → s.bsq.st = .finishing → s.bsq.work = [] → done =
      .next (finish { s with bsq := { s.bsq with head := .parked, out := none, st := .paused, cursor := none } })) ∧
    (o.cmd = .park → s.bsq.st = .halted → s.bsq.work = [] → ∃ t, done = .next t ∧ cleared .parked t ∧ t.bsq.st = .idle ∧
      t.bsq.out = none) ∧
    (∀ e cur g i w, o.cmd = .park → s.bsq.st = .halted → s.bsq.work = [e] → s.bsq.cursor = some cur → e.group = 4 →
      e.mark = .none → (s.pullsLeft cur.base)[cur.idx]? = some (g, i) → p.wire? g i = some w → s.lnk.queue.length < 24 →
      ∃ t, done = .next t ∧ cleared .parked t ∧ t.bsq.st = .running ∧ t.bsq.work = [e] ∧ t.bsq.out = out (hook e.unit w)) ∧
    (∀ e cur w, o.cmd = .unpark → s.bsq.st = .running ∨ s.bsq.st = .finishing → s.bsq.work = [e] →
      s.bsq.cursor = some cur → e.group ≠ 4 → cur.again = false → p.wire? e.group cur.idx = some w →
      (e.mark = .none → done = .next (finish (sends (wire e.unit w)
          { s.bsq with head := .atWork, cursor := some { cur with started := true } } s))) ∧
      (e.mark = .release → ∃ t, done = .next t ∧ left t ∧ adds t [.release e.win e.unit e.group cur.idx]) ∧
      (e.mark = .drop → ∃ t, done = .next t ∧ dropped e t)) ∧
    (o.cmd = .rethread → s.bsq.st = .halted ∨ s.bsq.st = .spoolOut →
      (s.bsq.work = [] → ∃ t, done = .next t ∧ cleared .atWork t ∧ t.bsq.st = .idle) ∧
      ∀ e cur w, s.bsq.work = [e] → s.bsq.cursor = some cur → e.group ≠ 4 → e.mark = .none →
        p.wire? e.group cur.idx = some w →
        ∃ t, done = .next t ∧ cleared .atWork t ∧ t.bsq.st = .running ∧ t.bsq.work = [e] ∧
          t.bsq.out = out (wire e.unit w)) ∧
    ∀ e cur g i w row col site height c, o.cmd = .hookPull row col site height →
      s.bsq.st = .running ∨ s.bsq.st = .finishing → s.bsq.work = [e] → s.bsq.cursor = some cur → e.group = 4 →
      (s.pullsLeft cur.base)[cur.idx]? = some (g, i) → p.wire? g i = some w → s.lnk.queue.length < 23 →
      let ended := fun (n : Note) => (∃ force mode, c = .pulled force mode ∧
          n = s.pullNote e g i force (modeCode mode) (verdictOf (modeCode mode) force (p.minOf (p.cls g)))) ∨
        (c = .hookMiss ∧ p.retryLimit ≤ s.bsq.retry ∧ n = s.pullNote e g i 0 (modeCode .none) Verdict.noResult)
      (e.mark ≠ .drop → c = .hookMiss → s.bsq.retry < p.retryLimit → exec (.headCompletion o.tag c) s = .next (finish
        (sends (hook e.unit w) { s.bsq with head := .atWork, retry := s.bsq.retry + 1
                                            cursor := some { cur with again := false, started := true } } s))) ∧
      (∀ n g' i' w', e.mark = .none → ended n → (s.pullsLeft cur.base)[cur.idx + 1]? = some (g', i') →
        p.wire? g' i' = some w' → exec (.headCompletion o.tag c) s = .next (finish (sends (hook e.unit w')
          { s.bsq with head := .atWork, retry := 0
                       cursor := some { cur with idx := cur.idx + 1, again := false, started := true } }
          { s with lnk := s.lnk.request .wsc n }))) ∧
      (∀ n g' i' w', e.mark = .release → ended n → (s.pullsLeft cur.base)[cur.idx + 1]? = some (g', i') →
        p.wire? g' i' = some w' →
        ∃ t, exec (.headCompletion o.tag c) s = .next t ∧ left t ∧ adds t [n, .release e.win e.unit 4 0]) ∧
      (∀ n, e.mark ≠ .drop → ended n → (s.pullsLeft cur.base)[cur.idx + 1]? = none →
        ∃ t, exec (.headCompletion o.tag c) s = .next t ∧ left t ∧ adds t [n, .done e.win e.unit 4 0]) ∧
      (∀ force mode, e.mark = .drop → c = .hookMiss ∨ c = .pulled force mode →
        ∃ t, exec (.headCompletion o.tag c) s = .next t ∧ dropped e t)

/-- What halts the head (R88, R89, R97, R98, R101, R103, R104). A head timeout, a completion of another tag and a kind R87
does not allow are handled as HEAD_FAULT of the command outstanding, which with the halting kinds puts the sequencer in HALTED
with the head position UNKNOWN, its work kept and HEAD_HALTED raised; WIRE_OUT puts it in SPOOL_OUT with the head position
kept and SPOOL_OUT raised. NO_BALL halts an UNPARK and a RETHREAD_CHECK. Going from one of the two to the other clears the
alarm of the one left. From FINISHING every claim is released, the one at the cursor with its wire index; from another state a
claim marked RELEASE is, and one marked DROP leaves with no note. An alert does the same with no command outstanding, is held
while one is, and is discarded in HALTED and SPOOL_OUT. That an alert is held in FINISHING, HALTED and SPOOL_OUT too while a
command is outstanding (assumption 22), and that HEAD_TIMEOUT does nothing with none outstanding (assumption 4), are the
model's choices. -/
def Obligations.FaultsHaltTheHead : Prop :=
  ∀ s : State, s.Ready → s.bsq.stop = false → s.bsq.alert = none →
    let kept := s.bsq.cursor.map fun c => { c with again := false }
    let free := fun (left : Alarm) (st : BState) => if s.bsq.st = st then clearAlarm left s else s
    let halts := fun (late : Option Byte) => finish (raise .headHalted { free .spoolOut .spoolOut with
      bsq := { s.bsq with st := .halted, head := .unknown, out := none, late := late, cursor := kept } })
    let spools := finish (raise .spoolOut { free .headHalted .halted with
      bsq := { s.bsq with st := .spoolOut, out := none, cursor := kept } })
    let ends := fun (e : WorkEntry) => s.bsq.st == .finishing || e.mark != .none
    let ended := fun (st : BState) (head : HeadPos) (late : Option Byte) (alarmed : State) (x : Answered) =>
      ∃ t, x = .next t ∧ t.bsq.st = st ∧ t.bsq.head = head ∧ t.bsq.late = late ∧ t.bsq.out = none ∧
        t.ocu.alarms = alarmed.ocu.alarms ∧ t.bsq.work = s.bsq.work.filter (fun e => !ends e) ∧
        t.bsq.cursor = (if (s.bsq.work.head?.map ends).getD false then none else kept) ∧
        t.lnk.queue ++ t.lnk.waiting = s.lnk.queue ++ s.lnk.waiting ++
          (s.bsq.work.zipIdx.filter fun x => ends x.1 && x.1.mark != .drop).map fun x =>
            ⟨s.releaseNote x.1 (if x.2 = 0 then s.bsq.cursor else none), .wsc, false⟩
    let endsHalted := fun (late : Option Byte) (x : Answered) =>
      ended .halted .unknown late (raise .headHalted (free .spoolOut .spoolOut)) x
    let endsSpool := fun (x : Answered) => ended .spoolOut s.bsq.head s.bsq.late (raise .spoolOut (free .headHalted .halted)) x
    let wholeWork : Prop := ∀ e ∈ s.bsq.work, e.mark = .none
    let halting := fun (o : Outstanding) (c : Completion) =>
      allowed o.cmd c = false ∨ c ∈ [Completion.shortTail, .overtravel, .headFault, .pullFault] ∨
        (c = .noBall ∧ (o.cmd = .unpark ∨ o.cmd = .rethread))
    (wholeWork → s.bsq.st ≠ .finishing → ∀ o, s.bsq.out = some o →
      exec .headTimeout s = .next (halts (some o.tag)) ∧
      (∀ tag c, tag ≠ o.tag → exec (.headCompletion tag c) s = .next (halts (some o.tag))) ∧
      (∀ c, halting o c → exec (.headCompletion o.tag c) s = .next (halts s.bsq.late)) ∧
      (allowed o.cmd .wireOut = true → exec (.headCompletion o.tag .wireOut) s = .next spools)) ∧
    (∀ o, s.bsq.out = some o →
      endsHalted (some o.tag) (exec .headTimeout s) ∧
      (∀ tag c, tag ≠ o.tag → endsHalted (some o.tag) (exec (.headCompletion tag c) s)) ∧
      (∀ c, halting o c → endsHalted s.bsq.late (exec (.headCompletion o.tag c) s)) ∧
      (allowed o.cmd .wireOut = true → endsSpool (exec (.headCompletion o.tag .wireOut) s))) ∧
    (s.bsq.st ≠ .halted → s.bsq.st ≠ .spoolOut → s.bsq.out = none →
      endsHalted s.bsq.late (exec (.headAlert .headFault) s) ∧
      (s.su.straps.role ≠ .pull → endsSpool (exec (.headAlert .wireOut) s)) ∧
      (s.su.straps.role = .pull → endsHalted s.bsq.late (exec (.headAlert .wireOut) s)) ∧
      ∀ tag c, s.bsq.late ≠ some tag → endsHalted s.bsq.late (exec (.headCompletion tag c) s)) ∧
    (wholeWork → s.bsq.st = .idle ∨ s.bsq.st = .running ∨ s.bsq.st = .paused → s.bsq.out = none →
      exec (.headAlert .headFault) s = .next (halts s.bsq.late) ∧
      (s.su.straps.role ≠ .pull → exec (.headAlert .wireOut) s = .next spools) ∧
      (s.su.straps.role = .pull → exec (.headAlert .wireOut) s = .next (halts s.bsq.late)) ∧
      ∀ tag c, s.bsq.late ≠ some tag → exec (.headCompletion tag c) s = .next (halts s.bsq.late)) ∧
    (∀ a o, s.bsq.out = some o →
      exec (.headAlert a) s = .next (finish { s with bsq := { s.bsq with alert := some a } })) ∧
    (s.bsq.st = .halted ∨ s.bsq.st = .spoolOut → s.bsq.out = none → ∀ a, exec (.headAlert a) s = .next (finish s)) ∧
    (s.bsq.out = none → ∀ tag c, s.bsq.late = some tag →
      exec (.headCompletion tag c) s = .next (finish { s with bsq := { s.bsq with late := none } })) ∧
    (s.bsq.out = none → exec .headTimeout s = .next (finish s))

/-- PAUSE, RESUME, HOLD_REL and SKIP, each taken from the head of the key queue (R71, R101, R121, R177). A skip not sent before
the index ends unsent: an INDEX_START applied leaves no request, and no SKIP but one in flight (R71). That the HOLD_OFF notes
of several classes are placed in ascending order (assumption 52), and that a SKIP waits while a request of the scheduler
waits for room in the note queue (assumption 34), are the model's choices; that the look of the scheduler in RESYNC takes out a
SKIP whose request has left the list before (assumption 64) is its reading. -/
def Obligations.PauseResumeHoldReleaseAndSkipKeys : Prop :=
  ∀ (s : State) (r : List Byte), s.Ready →
    let taken : State := { s with ocu := { s.ocu with keyQ := r } }
    (s.ocu.keyQ = 0x02#8 :: r →
      (s.bsq.st = .idle ∨ s.bsq.st = .running → ∃ t, exec .keyPause s = .next t ∧ t.ocu.keyQ = r ∧
        (t.bsq.st = .finishing ∨ t.bsq.st = .paused ∧ t.bsq.head = .parked ∧ t.bsq.work = []) ∧
        (∀ e ∈ t.bsq.work, e.mark ≠ .none) ∧
        t.wsc.claims = s.wsc.claims.filter fun e => e.held || s.lnk.noteFlying (.claim e.win e.unit e.group)) ∧
      (s.bsq.st ≠ .idle → s.bsq.st ≠ .running → exec .keyPause s = .next (finish taken))) ∧
    (s.ocu.keyQ = 0x03#8 :: r →
      (s.bsq.st = .paused → ∃ t, exec .keyResume s = .next t ∧ t.ocu.keyQ = r ∧ t.bsq.st = .idle) ∧
      (s.bsq.st ≠ .paused → exec .keyResume s = .next (finish taken))) ∧
    (s.ocu.keyQ = 0x06#8 :: r →
      let handed : Prop := ∃ a b e, s.ocu.alarms = a ++ e :: b ∧ (∀ x ∈ a, x.code ≠ .qualityHold) ∧ e.code = .qualityHold ∧
        e.st = .acked
      let unlisted : Prop := (∀ x ∈ s.ocu.alarms, x.code ≠ .qualityHold) ∧ s.heldClasses ≠ []
      (handed ∨ unlisted → s.lnk.st = .active ∨ s.lnk.st = .resync → exec .keyHoldRel s = .next (finish { taken with
        lnk := (s.heldClasses.filter fun c => !s.lnk.hasNote (· == .holdOff c)).foldl
          (fun l c => l.request .wsc (.holdOff c)) s.lnk })) ∧
      (¬(handed ∨ unlisted) ∨ (s.lnk.st ≠ .active ∧ s.lnk.st ≠ .resync) → exec .keyHoldRel s = .next (finish taken))) ∧
    (s.ocu.keyQ = 0x07#8 :: r → ∀ row col p seat t x e, s.ocu.mapCursor = some (row, col) → s.su.held = some p →
      p.seated s.su.straps = some seat → s.table = some t → s.lnk.st = .active ∨ s.lnk.st = .resync → t.phase = .opened →
      t.win? seat.win = some x → x.units[row * p.cols + col]? = some e → e.st = .opened → s.wsc.skips = [] →
      ∃ t', exec .keySkip s = .next t' ∧ t'.ocu.keyQ = r ∧ t'.ctu = s.ctu ∧
        let now := s.lnk.st = .active ∧ e.claimed = false ∧ (∀ q ∈ s.lnk.waiting, q.producer ≠ .wsc) ∧
          ∀ k ∈ s.wsc.claims, k.held = false → k.win = seat.win → k.unit ≠ row * p.cols + col
        (now → t'.wsc.skips = [⟨seat.win, x.id, row * p.cols + col, true⟩] ∧
          (⟨.skip seat.win (row * p.cols + col), .wsc, false⟩ : QNote) ∈ t'.lnk.queue ++ t'.lnk.waiting) ∧
        (¬now → t'.wsc.skips = [⟨seat.win, x.id, row * p.cols + col, false⟩] ∧ (s.lnk.st = .active → t'.lnk = s.lnk) ∧
          (s.lnk.st = .resync → t'.lnk = s.lnk.takeOut fun n => match n with | .skip .. => true | _ => false))) ∧
    ∀ (p : Plan) (own : Bool) (sender : Nat) (before after : Table),
      let t := tellApplied p own sender before after .indexStart s
      t.wsc.skips = [] ∧ ∀ q ∈ t.lnk.queue ++ t.lnk.waiting, ∀ w u, q.note = .skip w u → q.inFlight = true

/-- CLEAR and SPOOL (R84, R99, R108, R126, R177). CLEAR in HALTED, and SPOOL in SPOOL_OUT, sends RETHREAD_CHECK, or PARK in
the pull role. CLEAR also closes or opens a clamp in FAULT by the phase while the station acts on its track, and recovers a
faulted index on the feed station by the transfer record: each of the three by itself, whatever the other two do. In any other
case the key does nothing. That the clamp is cleared only while the track unit holds its duties (assumption 20) is the model's
reading; that a key taken while no head command may be sent clears no halt, later either (assumption 73), and that a clamp is
closed under a phase code that is not defined (assumption 81), are its choices. -/
def Obligations.ClearAndSpoolKeys : Prop :=
  ∀ (s : State) (r : List Byte) (lv : Levels), s.Ready →
    let moved := if s.tmu.beamStarted then lv.transferMoved else s.tmu.transfer
    let taken : State := { s with ocu := { s.ocu with keyQ := r } }
    let sensed : State := { taken with tmu := { s.tmu with levels := lv, transfer := moved } }
    let sends := fun (t : State) => { t with
      bsq := { s.bsq with nextTag := s.bsq.nextTag + 1
                          out := some ⟨if s.su.straps.role = .pull then .park else .rethread, s.bsq.nextTag,
                            (s.su.held.map (·.headTimeout)).getD 2000⟩ } }
    let clears := fun (st : BState) => s.bsq.st == st && s.bsq.out.isNone && s.headFree
    let halt := fun (x : State) => if clears .halted then sends x else x
    let clamp := fun (t : Table) (x : State) =>
      if s.tmu.clamp = .fault ∧ s.tmu.duty = true then clearAlarm .clampFault { x with
        tmu := { x.tmu with clamp := if t.phase = .moving then .opening else .closing, openTakeUp := false } }
      else x
    let index := fun (t : Table) (x : State) =>
      if s.actsFeed = true ∧ t.phase = .fault ∧ s.tmu.beam = .home then { x with
        lnk := s.lnk.request .wsc (if moved then .indexDone (t.index + 1).toNat 1 else .indexDone t.index.toNat 0) }
      else x
    (s.ocu.keyQ = 0x05#8 :: r →
      (clears .spoolOut → exec .keySpool s = .next (finish (sends taken))) ∧
      (¬clears .spoolOut → exec .keySpool s = .next (finish taken))) ∧
    (s.ocu.keyQ = 0x04#8 :: r →
      (s.table = none → exec (.keyClear lv) s = .next (finish (halt sensed))) ∧
      ∀ t, s.table = some t → exec (.keyClear lv) s = .next (finish (index t (clamp t (halt sensed)))))

/-! ## Keys, alarms and text (chapter 10) -/

/-- A key press enters the key queue, or is dropped and counted when its code names no key or 8 keys wait; while a self-check
or the restart sequence runs it is dropped and not counted (R176). The arrow keys move the map cursor within the plan's rows
and columns (R167), MSG_UP and MSG_DOWN move the view, MSG_CLR clears the history and leaves the flags (R175). -/
def Obligations.KeyPressArrowAndMessageKeys : Prop :=
  ∀ (s : State) (code : Byte) (r : List Byte),
    let named : Prop := 1 ≤ code.toNat ∧ code.toNat ≤ 16
    (s.Ready → named → s.ocu.keyQ.length < 8 → exec (.keyPress code) s =
      .next (finish { s with ocu := { s.ocu with keyQ := s.ocu.keyQ ++ [code] } })) ∧
    (s.Ready → ¬named ∨ 8 ≤ s.ocu.keyQ.length → exec (.keyPress code) s =
      .next (finish { s with ocu := { s.ocu with keyDropped := min 255 (s.ocu.keyDropped + 1) } })) ∧
    (s.Settled → s.su.run ≠ .running → exec (.keyPress code) s = .next (finish s)) ∧
    (∀ p row col, s.Ready → s.su.held = some p → s.ocu.mapCursor = some (row, col) →
      let goes := fun (d : Arrow) (key : Byte) (dest : Nat × Nat) => s.ocu.keyQ = key :: r → exec (.keyArrow d) s =
        .next (finish { s with ocu := { s.ocu with keyQ := r, mapCursor := some dest } })
      goes .up 0x09 (row - 1, col) ∧ goes .down 0x0A (if row + 1 < p.rows then row + 1 else row, col) ∧
      goes .left 0x0B (row, col - 1) ∧ goes .right 0x0C (row, if col + 1 < p.cols then col + 1 else col)) ∧
    (s.Ready → s.ocu.mapCursor = none → ∀ d ∈ [Arrow.up, .down, .left, .right], s.ocu.keyQ = arrowCode d :: r →
      exec (.keyArrow d) s = .next (finish { s with ocu := { s.ocu with keyQ := r } })) ∧
    (s.Ready → s.ocu.keyQ = 0x0F :: r → exec .keyMsgUp s =
      .next (finish { s with ocu := { s.ocu with keyQ := r, viewTop := s.ocu.viewTop - 1 } })) ∧
    (s.Ready → s.ocu.keyQ = 0x10 :: r → exec .keyMsgDown s =
      .next (finish { s with ocu := { s.ocu with
        keyQ := r, viewTop := if s.ocu.viewTop < 24 then s.ocu.viewTop + 1 else s.ocu.viewTop } })) ∧
    (s.Ready → s.ocu.keyQ = 0x08 :: r → exec .keyMsgClr s =
      .next (finish { s with ocu := { s.ocu with
        keyQ := r, hist := List.replicate 32 (List.replicate 64 ⟨0x20, false⟩), line := 0, col := 0, fullMark := false
        viewTop := 0 } }))

/-- A raise of an alarm code (R169), by what the list holds of the code: the repeat count rises; a CLEARED_UNACKED entry goes
RAISED to the tail; a code not listed enters at the tail, in the place of the oldest ACKED entry when 8 are listed, and is
only counted when none of the 8 is ACKED. The end of an alarm's condition and the ACK key (R170): a RAISED entry becomes
CLEARED_UNACKED and an ACKED one is removed; ACK acts on the oldest entry that is RAISED or CLEARED_UNACKED, and on no other. A
raise that meets the end of the condition, or an ACK, of the same entry is taken in either order. -/
def Obligations.AlarmsAreRaisedSettledAndAcknowledged : Prop :=
  (∀ (a : Alarm) (s : State),
    let put := fun (l : List AlarmEntry) => { s with ocu := { s.ocu with alarms := l } }
    let new : AlarmEntry := ⟨a, .raised, (s.table.map (·.index.toNat)).getD 0, 0⟩
    (∀ x e y, s.ocu.alarms = x ++ e :: y → (∀ b ∈ x, b.code ≠ a) → e.code = a →
      (e.st ≠ .clearedUnacked → raise a s = put (x ++ { e with repeats := min 255 (e.repeats + 1) } :: y)) ∧
      (e.st = .clearedUnacked → raise a s = put (x ++ y ++ [{ new with repeats := min 255 (e.repeats + 1) }]))) ∧
    ((∀ e ∈ s.ocu.alarms, e.code ≠ a) →
      (s.ocu.alarms.length < 8 → raise a s = put (s.ocu.alarms ++ [new])) ∧
      (8 ≤ s.ocu.alarms.length → ∀ x e y, s.ocu.alarms = x ++ e :: y → (∀ b ∈ x, b.st ≠ .acked) → e.st = .acked →
        raise a s = put (x ++ y ++ [new])) ∧
      (8 ≤ s.ocu.alarms.length → (∀ e ∈ s.ocu.alarms, e.st ≠ .acked) →
        raise a s = { s with ocu := { s.ocu with overflow := min 255 (s.ocu.overflow + 1) } }))) ∧
  (∀ (a : Alarm) (s : State),
    let put := fun (l : List AlarmEntry) => { s with ocu := { s.ocu with alarms := l } }
    (∀ x e y, s.ocu.alarms = x ++ e :: y → (∀ b ∈ x, b.code ≠ a) → e.code = a →
      (e.st = .raised → clearAlarm a s = put (x ++ { e with st := .clearedUnacked } :: y)) ∧
      (e.st = .acked → clearAlarm a s = put (x ++ y)) ∧ (e.st = .clearedUnacked → clearAlarm a s = s)) ∧
    ((∀ e ∈ s.ocu.alarms, e.code ≠ a) → clearAlarm a s = s)) ∧
  (∀ (a : Alarm) (ix : Nat) (o : Ocu) x e y, o.alarms = x ++ e :: y → (∀ b ∈ x, b.code ≠ a) → e.code = a →
    let again := fun (e : AlarmEntry) => { e with repeats := min 255 (e.repeats + 1) }
    (e.st = .raised →
      ((o.settleAlarm a).raise a ix).alarms = x ++ y ++ [again { e with st := .raised, index := ix }] ∧
      ((o.raise a ix).settleAlarm a).alarms = x ++ again { e with st := .clearedUnacked } :: y) ∧
    (e.st = .acked → ((o.raise a ix).settleAlarm a).alarms = x ++ y) ∧
    (e.st = .raised → (∀ b ∈ x, b.st = .acked) →
      (o.ack.raise a ix).alarms = x ++ again { e with st := .acked } :: y ∧
      (o.raise a ix).ack.alarms = x ++ again { e with st := .acked } :: y)) ∧
  ∀ (s : State) (r : List Byte), s.Ready → s.ocu.keyQ = 0x01#8 :: r →
    let put := fun (l : List AlarmEntry) => finish { s with ocu := { s.ocu with keyQ := r, alarms := l } }
    (∀ x e y, s.ocu.alarms = x ++ e :: y → (∀ b ∈ x, b.st = .acked) →
      (e.st = .raised → exec .keyAck s = .next (put (x ++ { e with st := .acked } :: y))) ∧
      (e.st = .clearedUnacked → exec .keyAck s = .next (put (x ++ y)))) ∧
    ((∀ e ∈ s.ocu.alarms, e.st = .acked) → exec .keyAck s = .next (put s.ocu.alarms))

/-- The interpreter takes a printable byte and a new line (R172, R173, R175). `taken` is the console with the byte out of the
queue; a new line at line 31 scrolls, or sets the full marker when scroll is off; while the marker is set, both are dropped.
The control codes (R174), each with everything it changes; every other byte ignored and counted; and at column 64 wrap on
starts no new line and the next printable byte is dropped. That COLUMN takes 0x05 with its n as one command, whatever n is,
and takes a later n when the queue held none, is the model's reading (assumption 32). -/
def Obligations.InterpreterActsOnEveryByte : Prop :=
  (∀ (s : State) (b : Byte) (q : List Byte), s.Ready → s.ocu.colPending = false → s.ocu.textQ = b :: q →
    let taken : Ocu := { s.ocu with textQ := q, textReady := s.ocu.textReady || decide (q.length ≤ 24) }
    let shows := fun (o : Ocu) => finish { s with ocu := { o with viewTop := o.line - 7 } }
    let newLine := fun (o : Ocu) =>
      if o.line < 31 then { o with line := o.line + 1, col := 0 }
      else if o.scroll then { o with hist := o.hist.drop 1 ++ [List.replicate 64 ⟨0x20, false⟩], col := 0 }
      else { o with fullMark := true }
    let typed : Ocu := { taken with col := s.ocu.col + 1
                                    hist := s.ocu.hist.modify s.ocu.line fun l => l.set s.ocu.col ⟨b, s.ocu.emph⟩ }
    (0x20 ≤ b.toNat → b.toNat ≤ 0x7E →
      (s.ocu.fullMark = true ∨ 63 < s.ocu.col → exec .printableByte s = .next (shows taken)) ∧
      (s.ocu.fullMark = false → s.ocu.col ≤ 63 → exec .printableByte s =
        .next (shows (if s.ocu.col = 63 ∧ s.ocu.wrap = true then newLine typed else typed)))) ∧
    (b = 0x03 →
      (s.ocu.fullMark = true → exec .newLine s = .next (shows taken)) ∧
      (s.ocu.fullMark = false → exec .newLine s = .next (shows (newLine taken))))) ∧
  ∀ (s : State) (b : Byte) (q : List Byte), s.Ready → s.ocu.textQ = b :: q →
    let taken : Ocu := { s.ocu with textQ := q, textReady := s.ocu.textReady || decide (q.length ≤ 24) }
    let shows := fun (o : Ocu) => finish { s with ocu := { o with viewTop := o.line - 7 } }
    let blank : Cell := ⟨0x20, false⟩
    let cleared := fun (l : List Cell) => l.take s.ocu.col ++ List.replicate (64 - s.ocu.col) blank
    let counted := fun (o : Ocu) => { o with ctlIgnored := min 65535 (o.ctlIgnored + 1) }
    let column := fun (n : Byte) (o : Ocu) => if n.toNat ≤ 63 then { o with col := n.toNat } else counted o
    (s.ocu.colPending = true → exec .column s = .next (shows (column b { taken with colPending := false }))) ∧
    (s.ocu.colPending = false →
      (b = 0x01 → exec .home s = .next (shows { taken with line := 0, col := 0, fullMark := false })) ∧
      (b = 0x02 → exec .clearHistory s = .next (finish { s with ocu := { taken with
        hist := List.replicate 32 (List.replicate 64 blank), line := 0, col := 0, fullMark := false, viewTop := 0 } })) ∧
      (b = 0x04 → exec .clearToEndOfLine s = .next (shows { taken with
        hist := s.ocu.hist.modify s.ocu.line cleared })) ∧
      (b = 0x05 → q = [] → exec .column s = .next (shows { taken with colPending := true })) ∧
      (∀ n r, b = 0x05 → q = n :: r → exec .column s = .next (shows (column n { taken with
        textQ := r, textReady := s.ocu.textReady || decide (r.length ≤ 24) }))) ∧
      (b = 0x06 → exec .emphasisOn s = .next (shows { taken with emph := true })) ∧
      (b = 0x07 → exec .emphasisOff s = .next (shows { taken with emph := false })) ∧
      (b = 0x08 → exec .backspace s = .next (shows { taken with col := s.ocu.col - 1 })) ∧
      (b = 0x0E → exec .wrapOff s = .next (shows { taken with wrap := false })) ∧
      (b = 0x0F → exec .wrapOn s = .next (shows { taken with wrap := true })) ∧
      (b = 0x10 → exec .scrollOff s = .next (shows { taken with scroll := false })) ∧
      (b = 0x11 → exec .scrollOn s = .next (shows { taken with scroll := true })) ∧
      (0x7F ≤ b.toNat ∨ b.toNat ∈ [0, 9, 10, 11, 12, 13, 18, 19, 20, 21, 22, 23, 24, 25, 26, 27, 28, 29, 30, 31] →
        exec .ignoredControl s = .next (shows (counted taken))) ∧
      (s.ocu.col = 64 → 0x20 ≤ b.toNat → b.toNat ≤ 0x7E → exec .printableByte s = .next (shows taken)))

/-- The refresher (R168): with the port free it takes the row at the head of the changed-row set and sends its 66 characters
read at this moment; with the port busy or nothing changed it does nothing; the end of a row frees the port. That the screen is
drawn again when the row is taken (assumption 3), and that several newly changed rows enter the set in ascending order
(assumption 12), are the model's choices. -/
def Obligations.RefresherSendsTheFirstChangedRow : Prop :=
  ∀ s : State, s.Ready →
    let changed := s.ocu.changed ++ (List.range 20).filter fun r =>
      !s.ocu.changed.contains r && s.ocu.screen.getD r [] != s.render.getD r []
    (∀ r rest, s.ocu.portRow = none → changed = r :: rest → exec .rowSend s = .next (finish { s with ocu := { s.ocu with
      screen := s.render, changed := rest
      portRow := some (r, [BitVec.ofNat 8 (0xC0 + r)] ++ (s.render.getD r []).map (fun c =>
        if c.em then c.ch + 0x80 else c.ch) ++ [0x0D]) } })) ∧
    (s.ocu.portRow ≠ none ∨ changed = [] → exec .rowSend s = .next (finish s)) ∧
    exec .rowSendDone s = .next (finish { s with ocu := { s.ocu with portRow := none } })

/-! ## Track and magazines (chapter 7) -/

/-- The clamp and the beam (R124 to R127): a motion ends at its sensor or its limit, with the note of the owner or of the feed
station. A clamp that opens is reported, one opened on taking up the duty only while its window is not in the clamp-open set;
a FAULT beam whose home sensor reports home while no jam is reported is HOME. A motion whose duty was given up meanwhile,
otherwise than by R35, ends with no note (R124). That otherwise the note is sent exactly while the station is ACTIVE or RESYNC
(assumption 19), that a report that meets no such motion only shows its levels (assumption 4), and how a jam is reported with
the levels (assumption 18), are the model's choices. -/
def Obligations.ClampAndBeamMotionsEnd : Prop :=
  ∀ (s : State) (lv : Levels), s.Ready →
    let shown : Tmu := { s.tmu with
      levels := lv, transfer := if s.tmu.beamStarted then lv.transferMoved else s.tmu.transfer }
    let goes := fun (c : ClampSt) (m : Tmu) => { m with clamp := c, openTakeUp := false }
    let becomes := fun (m : Tmu) (n : Option Note) => finish { s with
      tmu := m, lnk := match n with | some n => s.lnk.request .tmu n | none => s.lnk }
    let working : Prop := s.lnk.st = .active ∨ s.lnk.st = .resync
    let reports : Prop := working ∧ s.tmu.feedMute = false
    (s.tmu.clamp = .opening →
      (∀ w, working → s.ownWindow = some w →
        (s.tmu.openTakeUp = true → ∀ t, s.table = some t → t.clampSet.getLsbD w = false) →
        exec (.clampOpenSensed lv) s = .next (becomes (goes .opened shown) (some (.clampOpen w)))) ∧
      (¬working ∨ s.ownWindow = none ∨ (s.tmu.openTakeUp = true ∧
          ∃ w t, s.ownWindow = some w ∧ s.table = some t ∧ t.clampSet.getLsbD w = true) →
        exec (.clampOpenSensed lv) s = .next (becomes (goes .opened shown) none)) ∧
      (∀ w, working → s.ownWindow = some w →
        exec .clampOpenLimit s = .next (becomes (goes .fault s.tmu) (some (.indexFault 0 w)))) ∧
      (¬working ∨ s.ownWindow = none → exec .clampOpenLimit s = .next (becomes (goes .fault s.tmu) none))) ∧
    (s.tmu.clamp ≠ .opening → exec (.clampOpenSensed lv) s = .next (becomes shown none) ∧
      exec .clampOpenLimit s = .next (finish s)) ∧
    (s.tmu.clamp = .closing → exec (.clampClosedSensed lv) s = .next (becomes (goes .closed shown) none) ∧
      exec .clampCloseLimit s = .next (finish (raise .clampFault { s with tmu := goes .fault s.tmu }))) ∧
    (s.tmu.clamp ≠ .closing → exec (.clampClosedSensed lv) s = .next (becomes shown none) ∧
      exec .clampCloseLimit s = .next (finish s)) ∧
    (s.tmu.beam = .moving →
      (∀ t, reports → s.table = some t → exec (.beamDone lv) s =
        .next (becomes { shown with beam := .home } (some (.indexDone (t.index + 1).toNat 1)))) ∧
      (reports →
        exec (.beamJam lv) s = .next (becomes { shown with beam := .fault } (some (.indexFault 2 0xFF))) ∧
        exec (.beamTimeout lv) s = .next (becomes { shown with beam := .fault } (some (.indexFault 3 0xFF)))) ∧
      (¬reports →
        exec (.beamDone lv) s = .next (becomes { shown with beam := .home } none) ∧
        exec (.beamJam lv) s = .next (becomes { shown with beam := .fault } none) ∧
        exec (.beamTimeout lv) s = .next (becomes { shown with beam := .fault } none))) ∧
    (s.tmu.beam ≠ .moving → ∀ c ∈ [Instr.beamDone lv, .beamJam lv, .beamTimeout lv],
      exec c s = .next (becomes shown none)) ∧
    exec (.beamHomeSensed lv) s = .next (becomes
      (if s.tmu.beam = .fault ∧ lv.beamJam = false then { shown with beam := .home } else shown) none)

/-- The elevators (R128, R129). On duty a magazine inserted starts HOMING; the home sensor begins the scan at slot 0; each
pitch reads a slot; the last slot sends the map, of an output magazine only when it agrees with the table, and is a fault
otherwise; the step limit of homing is a fault; a SEEKING elevator steps toward its target and stands there. A magazine
removed leaves NO_MAGAZINE, clears ELEVATOR_FAULT when no other elevator is FAULT, is told on duty, and during a push at it is
a push fault (R132, R136). A scan that ends when its duty was lost by R35 sends its map all the same; when the duty was given
up otherwise it sends none, and a push ends IDLE (R124). A homing that fails in step 1 of a restart is a fault until every
block is at rest: then no elevator is FAULT, and ELEVATOR_FAULT ends (R38, R128). `judgeMags` judges MAG_IN_EMPTY and
MAG_OUT_FULL again (R131, R135). That MAG_IN_EMPTY stands on through a later scan (assumption 35), that MAG_OUT_FULL ends with
the removal of the full magazine (assumption 75), that an elevator off duty stands AT_SLOT when its homing or its scan ends
(assumption 19), that a restart takes an elevator out of FAULT when its blocks are at rest (assumption 82), and that a report
that meets no motion or no magazine only shows its levels (assumption 4), are the model's choices. -/
def Obligations.ElevatorsHomeScanAndSeek : Prop :=
  (∀ s : State,
    let shows := fun (m : MagRec) (code : Nat) => m.presence = 1 ∧ code ∈ m.slots
    let dry : Prop := s.su.straps.feed = true ∧ s.lnk.st = .active ∧ s.su.feedLost = false ∧
      (∃ t, s.table = some t ∧ ¬shows t.magInput 1) ∧
      (s.ocu.magIn = true ∨ (s.tmu.elInput.st ≠ .homing ∧ s.tmu.elInput.st ≠ .scanning))
    let stuffed : Prop := s.su.straps.unload = true ∧ s.lnk.st = .active ∧ s.su.unloadLost = false ∧
      ∃ t, s.table = some t ∧ ∃ m ∈ [t.magGood, t.magReject], m.presence = 1 ∧ ¬shows m 0
    let turn := fun (a : Alarm) (before after : Bool) (x : State) =>
      if !before && after then raise a x else if before && !after then clearAlarm a x else x
    ∃ a b, (a = true ↔ dry) ∧ (b = true ↔ stuffed) ∧ judgeMags s = turn .magOutFull s.ocu.magOut b
      (turn .magInEmpty s.ocu.magIn a { s with ocu := { s.ocu with magIn := a, magOut := b } })) ∧
  (∀ (s : State) (lv : Levels) (m : MagName), s.Settled → s.su.run = .resting → s.lnk.st = .listen →
    (s.tmu.elev m).st = .homing → (elevLevels lv m).home = false →
    ((s.tmu.elev m).slots + 2) * (s.tmu.elev m).pitch ≤ (s.tmu.elev m).steps + 1 →
    ∃ t, exec (.elevatorStep m lv) s = .next t ∧
      (t.su.run = .resting → (t.tmu.elev m).st = .fault) ∧
      (t.su.run ≠ .resting → t.su.run = .restartCheck ∧ ∀ k, (t.tmu.elev k).st ≠ .fault) ∧
      (s.ocu.alarms = [] → ∃ a ∈ t.ocu.alarms, a.code = .elevatorFault ∧
        a.st = (if t.su.run = .resting then .raised else .clearedUnacked))) ∧
  ∀ (s : State) (lv : Levels) (m : MagName) (p : Plan), s.Ready → s.su.held = some p →
    let shown : Tmu := { s.tmu with
      levels := lv, transfer := if s.tmu.beamStarted then lv.transferMoved else s.tmu.transfer }
    let e := s.tmu.elev m
    let seen := elevLevels lv m
    let at_ := fun (x : Elev) => finish (judgeMags { s with tmu := shown.setElev m x })
    let codes := fun (l : List Bool) => l.map fun b => if b then 1 else 0
    let faulted := fun (x : Elev) =>
      finish (judgeMags (raise .elevatorFault { s with tmu := shown.setElev m { x with st := .fault } }))
    let working : Prop := s.lnk.st = .active ∨ s.lnk.st = .resync
    let mute := fun (k : PusherName) => match k with | .input => s.tmu.feedMute | .output => s.tmu.unloadMute
    let reports : Prop := working ∧ mute (if m = .input then .input else .output) = false
    let scanned := fun (c : Instr) (duty : Bool) (x : Elev) => ∀ t, s.table = some t →
      let accepted : Prop := m = .input ∨ ∀ k : Nat, x.map[k]? = some true ↔
        (t.mag m).presence = 1 ∧ (t.mag m).slots[k]? = some 1
      (accepted → exec c s = .next (finish (judgeMags { s with
        tmu := shown.setElev m { x with st := if duty then .seeking else .atSlot, waiting := duty, target := none }
        lnk := s.lnk.request .tmu (.magazine (MagName.code m) 1 (codes x.map)) }))) ∧
      (¬accepted → exec c s = .next (faulted x))
    let gone := fun (change : Tmu → Tmu) =>
      { (if e.st == .fault && !(shown.setElev m .reset).elevFault then clearAlarm .elevatorFault s else s) with
        tmu := change (shown.setElev m .reset)
        lnk := if s.tmu.onDuty m then s.lnk.request .tmu (.magazine (MagName.code m) 0 []) else s.lnk }
    (s.tmu.onDuty m = true → e.st = .noMagazine →
      (seen.home = false → exec (.magazineInserted m lv) s =
        .next (at_ ⟨.homing, none, none, [], 0, false, p.slots m, p.pitch⟩)) ∧
      (seen.home = true → 1 < p.slots m → exec (.magazineInserted m lv) s =
        .next (at_ ⟨.scanning, some 0, none, [seen.occupied], 0, false, p.slots m, p.pitch⟩)) ∧
      (seen.home = true → p.slots m ≤ 1 → scanned (.magazineInserted m lv) true
        ⟨.scanning, some 0, none, [seen.occupied], 0, false, p.slots m, p.pitch⟩)) ∧
    (s.tmu.onDuty m = false ∨ e.st ≠ .noMagazine → exec (.magazineInserted m lv) s = .next (at_ e)) ∧
    (e.st ≠ .noMagazine →
      (s.pushesAt m = none → exec (.magazineRemoved m lv) s = .next (finish (judgeMags (gone id)))) ∧
      ∀ k, s.pushesAt m = some k →
        (working → mute k = false → exec (.magazineRemoved m lv) s = .next (finish (judgeMags
          (raise .pushFault (gone fun x => x.setPush k { s.tmu.push k with st := .fault }))))) ∧
        (¬working ∨ mute k = true → exec (.magazineRemoved m lv) s = .next (finish (judgeMags
          (gone fun x => x.setPush k { s.tmu.push k with st := .idle }))))) ∧
    (e.st = .noMagazine → exec (.magazineRemoved m lv) s = .next (at_ e)) ∧
    (e.st = .homing →
      (seen.home = true → s.tmu.onDuty m = true → 1 < e.slots → exec (.elevatorStep m lv) s = .next (at_
        { e with st := .scanning, cur := some 0, steps := 0, map := e.map ++ [seen.occupied] })) ∧
      (seen.home = true → s.tmu.onDuty m = true → e.slots ≤ 1 → scanned (.elevatorStep m lv) true
        { e with st := .scanning, cur := some 0, steps := 0, map := e.map ++ [seen.occupied] }) ∧
      (seen.home = true → s.tmu.onDuty m = false → exec (.elevatorStep m lv) s =
        .next (at_ { e with st := .atSlot, cur := some 0, target := none, steps := 0 })) ∧
      (seen.home = false → e.steps + 1 < (e.slots + 2) * e.pitch →
        exec (.elevatorStep m lv) s = .next (at_ { e with steps := e.steps + 1 })) ∧
      (seen.home = false → (e.slots + 2) * e.pitch ≤ e.steps + 1 → exec (.elevatorStep m lv) s =
        .next (faulted { e with steps := e.steps + 1 }))) ∧
    (∀ i, e.st = .scanning → e.cur = some i →
      (e.steps + 1 < e.pitch → exec (.elevatorStep m lv) s = .next (at_ { e with steps := e.steps + 1 })) ∧
      (e.pitch ≤ e.steps + 1 → i + 2 < e.slots → exec (.elevatorStep m lv) s =
        .next (at_ { e with cur := some (i + 1), steps := 0, map := e.map ++ [seen.occupied] })) ∧
      (e.pitch ≤ e.steps + 1 → e.slots ≤ i + 2 → s.tmu.onDuty m = true ∨ reports →
        scanned (.elevatorStep m lv) (s.tmu.onDuty m)
          { e with cur := some (i + 1), steps := 0, map := e.map ++ [seen.occupied] }) ∧
      (e.pitch ≤ e.steps + 1 → e.slots ≤ i + 2 → s.tmu.onDuty m = false → ¬reports →
        exec (.elevatorStep m lv) s = .next (at_ { e with
          st := .atSlot, cur := some (i + 1), steps := 0, map := e.map ++ [seen.occupied], waiting := false, target := none }))) ∧
    (∀ i c, e.st = .seeking → e.waiting = false → e.target = some i → e.cur = some c →
      (e.steps + 1 < e.pitch → exec (.elevatorStep m lv) s = .next (at_ { e with steps := e.steps + 1 })) ∧
      (e.pitch ≤ e.steps + 1 →
        let c' := if c < i then c + 1 else c - 1
        exec (.elevatorStep m lv) s = .next (at_
          { e with cur := some c', steps := 0, st := if c' = i then .atSlot else .seeking }))) ∧
    (e.st = .atSlot ∨ e.st = .noMagazine ∨ e.st = .fault → exec (.elevatorStep m lv) s = .next (at_ e))

/-- The pushers (R132, R136). A push starts under exactly its conditions, with its pending push record; done, it is reported
with LOAD or UNLOAD; a jam or the limit is a push fault with the record kept. A push whose duty was given up meanwhile,
otherwise than by R35, ends with no note, its record kept (R124). The model's choices: so ended, and off ACTIVE and RESYNC,
its pusher is IDLE (assumption 19); with no push under way the reports do nothing (assumption 4); no push starts while a
request of the track unit waits for room in the note queue (assumption 34). -/
def Obligations.PushersStartReportAndFail : Prop :=
  ∀ s : State, s.Ready →
    let free : Prop := ∀ q ∈ s.lnk.waiting, q.producer ≠ .tmu
    let load : Nat → Prop := fun i => ∃ t, s.table = some t ∧ s.actsFeed = true ∧ s.tmu.feedDuty = true ∧ t.phase = .opened ∧
      t.railIn = none ∧ s.tmu.beam = .home ∧ s.tmu.pushIn.st = .idle ∧ s.tmu.elInput.st = .atSlot ∧
      s.tmu.elInput.cur = some i ∧ t.magInput.presence = 1 ∧ t.magInput.slots[i]? = some 1 ∧ free
    let unload : MagName → Nat → Nat → Prop := fun m i id => ∃ t x, s.table = some t ∧ t.railOut = some x ∧ x.id = id ∧
      m = (if goodStrip x then .good else .reject) ∧ s.actsUnload = true ∧ s.tmu.unloadDuty = true ∧ t.phase ≠ .moving ∧
      s.tmu.pushOut.st = .idle ∧ (s.tmu.elev m).st = .atSlot ∧ (s.tmu.elev m).cur = some i ∧ (t.mag m).presence = 1 ∧
      (t.mag m).slots[i]? = some 0 ∧ free
    let put := fun (k : PusherName) (x : Push) => { s with tmu := s.tmu.setPush k x }
    let reports := fun (k : PusherName) => (s.lnk.st = .active ∨ s.lnk.st = .resync) ∧
      (match k with | .input => s.tmu.feedMute | .output => s.tmu.unloadMute) = false
    (∀ i, load i → exec (.pushStart .input) s = .next (finish (put .input ⟨.pushing, some ⟨i, .input, 0⟩⟩))) ∧
    ((∀ i, ¬load i) → exec (.pushStart .input) s = .next (finish s)) ∧
    (∀ m i id, unload m i id → exec (.pushStart .output) s = .next (finish (put .output ⟨.pushing, some ⟨i, m, id⟩⟩))) ∧
    ((∀ m i id, ¬unload m i id) → exec (.pushStart .output) s = .next (finish s)) ∧
    (∀ k r t, (s.tmu.push k).st = .pushing → (s.tmu.push k).pending = some r → s.table = some t → reports k →
      let note := match k with
        | .input => Note.load r.slot (t.loaded.toNat % 65535 + 1)
        | .output => Note.unload r.strip (if r.mag = .reject then 1 else 0) r.slot
      let reporting : Tmu → State := fun x =>
        { s with lnk := s.lnk.request .tmu note, tmu := x.setPush k ⟨.reporting note, some r⟩ }
      let missed : Prop := k = .output ∧ ∃ x, t.railOut = some x ∧ x.id = r.strip ∧
        ∃ e ∈ x.units, e.test = .pending ∨ e.test = .claimed
      (missed → exec (.pushDone k) s = .next (finish (reporting { s.tmu with missed := min 65535 (s.tmu.missed + 1) }))) ∧
      (¬missed → exec (.pushDone k) s = .next (finish (reporting s.tmu))) ∧
      ∀ c ∈ [Instr.pushJam k, .pushLimit k], exec c s = .next (finish (raise .pushFault (put k ⟨.fault, some r⟩)))) ∧
    (∀ k, (s.tmu.push k).st = .pushing → ¬reports k → ∀ c ∈ [Instr.pushDone k, .pushJam k, .pushLimit k],
      exec c s = .next (finish (put k { s.tmu.push k with st := .idle }))) ∧
    (∀ k, (s.tmu.push k).st ≠ .pushing → ∀ c ∈ [Instr.pushDone k, .pushJam k, .pushLimit k], exec c s = .next (finish s))

/-- SEATED and REMOVED (R138, R139), each taken from the head of the key queue: they act on the faulted pusher, the input
pusher first; with none faulted REMOVED writes off the strip on OUT, or else on IN, of the station's duties. SEATED at the
output judges the strip as an UNLOAD does and counts a missed test (R134); that it takes the verdict of whatever strip stands
on OUT, and with OUT empty the one that belongs to the record's magazine, is the model's choice (assumption 69). SEATED off
duty sends nothing (R35); that REMOVED still writes off the strip of a faulted pusher whose duty is lost, that neither key
has an effect on a faulted pusher while the station is neither ACTIVE nor RESYNC (assumption 20), and that a strip whose UNLOAD
is placed again counts again (assumption 58), are the model's readings; that the input pusher comes first also on a station
that is not both feed and unload (assumption 85) is its choice. -/
def Obligations.SeatedAndRemovedKeysSettlePushes : Prop :=
  ∀ (s : State) (q : List Byte) (t : Table), s.Ready → s.table = some t →
    let next := t.loaded.toNat % 65535 + 1
    let working : Prop := s.lnk.st = .active ∨ s.lnk.st = .resync
    let taken : State := { s with ocu := { s.ocu with keyQ := q } }
    let reports := fun (x : Tmu) (k : PusherName) (r : PendingPush) (n : Note) => finish { taken with
      tmu := x.setPush k ⟨.reporting n, some r⟩, lnk := s.lnk.request .tmu n }
    let sends := fun (n : Note) => finish { taken with lnk := s.lnk.request .tmu n }
    let seated := fun (t : State) => s.ocu.keyQ = 0x0D#8 :: q → exec .keySeated s = .next t
    let removed := fun (t : State) => s.ocu.keyQ = 0x0E#8 :: q → exec .keyRemoved s = .next t
    (∀ r, s.tmu.pushIn = ⟨.fault, some r⟩ →
      (working → s.tmu.feedDuty = true → seated (reports s.tmu .input r (.load r.slot next))) ∧
      (¬working ∨ s.tmu.feedDuty = false → seated (finish taken)) ∧
      (working → removed (reports s.tmu .input r (.writeOff next 0 r.slot))) ∧
      (¬working → removed (finish taken))) ∧
    (∀ r, s.tmu.pushIn.st ≠ .fault → s.tmu.pushOut = ⟨.fault, some r⟩ →
      (∀ x, working → s.tmu.unloadDuty = true → t.railOut = some x →
        let missed : Prop := x.id = r.strip ∧ ∃ e ∈ x.units, e.test = .pending ∨ e.test = .claimed
        let note : Note := .unload r.strip (if goodStrip x then 0 else 1) r.slot
        (missed → seated (reports { s.tmu with missed := min 65535 (s.tmu.missed + 1) } .output r note)) ∧
        (¬missed → seated (reports s.tmu .output r note))) ∧
      (working → s.tmu.unloadDuty = true → t.railOut = none →
        seated (reports s.tmu .output r (.unload r.strip (if r.mag = .reject then 1 else 0) r.slot))) ∧
      (¬working ∨ s.tmu.unloadDuty = false → seated (finish taken)) ∧
      (working → removed (reports s.tmu .output r (.writeOff r.strip 2 0xFF))) ∧
      (¬working → removed (finish taken))) ∧
    (s.tmu.pushIn.st ≠ .fault → s.tmu.pushOut.st ≠ .fault →
      seated (finish taken) ∧
      (∀ x, s.actsUnload = true → t.railOut = some x → s.tmu.pushOut.st = .idle → removed (sends (.writeOff x.id 2 0xFF))) ∧
      (∀ x, s.actsUnload = false ∨ t.railOut = none ∨ s.tmu.pushOut.st ≠ .idle →
        s.actsFeed = true → t.railIn = some x → s.tmu.pushIn.st = .idle → removed (sends (.writeOff x.id 1 0xFF))) ∧
      (s.actsUnload = false ∨ t.railOut = none ∨ s.tmu.pushOut.st ≠ .idle →
        s.actsFeed = false ∨ t.railIn = none ∨ s.tmu.pushIn.st ≠ .idle → removed (finish taken)))

/-! ## The record store (chapters 8 and 9) -/

/-- The trace ring (R141 to R146). A hand-off makes an entry on a reservation; replaces the measurements of an open entry of
the same wire, counting one lost; and is else discarded and counted lost; each uses one of the claim's reservation. A pull
result joins its open entry, or becomes a PULL_ORPHAN record when the queue has room, or is counted as discarded; a LOCKED or
FAULT store writes none. The entries of a strip that has left, and once the table is complete those of strips that stand
nowhere in it, are not tested, in order of strip, unit, group and wire. An entry with an outcome enters the write queue while
that has room, in the order of the outcomes; a LOCKED or FAULT store frees it and counts it lost. `tellApplied` hands the unit
the results and strips of applied notes. That an open entry is replaced with or without a reservation, and several strips go
in the order of their ids (assumption 12), and that the index count and retries are replaced too (assumption 59), are the
model's choices. -/
def Obligations.TraceRingJoinsPullsToTheirBonds : Prop :=
  (∀ (r : Rcu) (k u g w ix : Nat) (m : Meas) (n : Nat), (∀ v ∈ r.resv, 0 < v.count) →
    let same := fun (e : TraceEntry) => e.strip = k ∧ e.unit = u ∧ e.group = g ∧ e.wire = w
    let mine := fun (v : Reservation) => v.strip = k ∧ v.unit = u ∧ v.group = g
    let used := fun (l : List Reservation) => (∀ a v b, r.resv = a ++ v :: b → (∀ x ∈ a, ¬mine x) → mine v →
        l = a ++ (if v.count = 1 then [] else [{ v with count := v.count - 1 }]) ++ b) ∧
      ((∀ v ∈ r.resv, ¬mine v) → l = r.resv)
    let after := fun (ring : List TraceEntry) (lost : Nat) =>
      ∃ l, used l ∧ r.handOff k u g w ix m n = { r with ring := ring, resv := l, lost := lost }
    let lost := min 65535 (r.lost + 1)
    let taken : Prop := r.store = .ready ∨ r.store = .full
    (taken → (∀ e ∈ r.ring, ¬same e) → (∃ v ∈ r.resv, mine v) →
      after (r.ring ++ [⟨k, u, g, w, ix, m, n, false, none⟩]) r.lost) ∧
    (taken → (∀ e ∈ r.ring, ¬same e) → (∀ v ∈ r.resv, ¬mine v) → after r.ring lost) ∧
    (taken → ∀ a e b, r.ring = a ++ e :: b → (∀ x ∈ a, ¬same x) → same e →
      (e.writing = false → e.outcome = none → after (a ++ { e with index := ix, meas := m, retries := n } :: b) lost) ∧
      (e.writing = true ∨ e.outcome ≠ none → after r.ring lost)) ∧
    (¬taken → after r.ring lost)) ∧
  (∀ r : Rcu, r.queue.length ≤ 8 → (∀ e ∈ r.ring, e.writing = true ∨ e.outcome = none) →
    (r.ring.map fun e => (e.strip, e.unit, e.group, e.wire)).Nodup →
    let room := 8 - r.queue.length
    let shut : Prop := r.store = .locked ∨ r.store = .fault
    let isOpen := fun (e : TraceEntry) => !e.writing && e.outcome.isNone
    let record := fun (e : TraceEntry) (o : TraceOutcome) => ({ e with outcome := some o } : TraceEntry).record
    (∀ (n : PullNote) (sender index : Nat),
      let same := fun (e : TraceEntry) => e.strip = n.strip ∧ e.unit = n.unit ∧ e.group = n.group ∧ e.wire = n.wire
      let o : TraceOutcome := .pull sender n.force n.mode n.verdict
      let orphan : RecBody := ⟨RecKind.orphan, n.strip, n.unit, n.group, n.wire, index, ⟨0, 0, 0, 0⟩, 0, sender, n.force,
        n.mode, n.verdict⟩
      (∀ a e b, r.ring = a ++ e :: b → same e → isOpen e = true →
        (shut → r.joinPull n sender index = { r with ring := a ++ b, lost := min 65535 (r.lost + 1) }) ∧
        (¬shut → 0 < room → r.joinPull n sender index = { r with
          ring := a ++ b ++ [{ e with outcome := some o, writing := true }], queue := r.queue ++ [record e o] }) ∧
        (¬shut → room = 0 → r.joinPull n sender index = { r with ring := a ++ b ++ [{ e with outcome := some o }] })) ∧
      ((∀ e ∈ r.ring, same e → isOpen e = false) →
        (shut → r.joinPull n sender index = r) ∧
        (¬shut → 0 < room → r.joinPull n sender index = { r with queue := r.queue ++ [orphan] }) ∧
        (¬shut → room = 0 → r.joinPull n sender index = { r with discarded := min 65535 (r.discarded + 1) }))) ∧
    ∀ (gone : Nat → Bool) (r' : Rcu), (∃ id, gone = (fun k => k == id) ∧ r' = r.stripLeft id) ∨
        (∃ t : Table, gone = (fun k => !((t.win.filterMap id ++ t.railIn.toList ++ t.railOut.toList).any fun x => x.id == k)) ∧
          r' = r.tableComplete t) →
      ∃ l : List TraceEntry, l.Perm (r.ring.filter fun e => isOpen e && gone e.strip) ∧
        l.Pairwise (fun a b => a.strip < b.strip ∨ (a.strip = b.strip ∧ (a.unit < b.unit ∨ (a.unit = b.unit ∧
          (a.group < b.group ∨ (a.group = b.group ∧ a.wire < b.wire)))))) ∧
        let others := r.ring.filter fun e => !(isOpen e && gone e.strip)
        (shut → r' = { r with ring := others, lost := min 65535 (r.lost + l.length) }) ∧
        (¬shut → r' = { r with
          queue := r.queue ++ (l.take room).map fun e => record e .notTested
          ring := others ++ l.zipIdx.map fun x =>
            { x.1 with outcome := some .notTested, writing := decide (x.2 < room) } })) ∧
  (∀ (p : Plan) (own : Bool) (sender : Nat) (t t' : Table) (s : State),
    (∀ n : PullNote, n.group ≠ 4 → (tellApplied p own sender t t' (.pullResult n) s).rcu =
      if n.bonder = s.stn then s.rcu.joinPull n sender t'.index.toNat else s.rcu) ∧
    (∀ n : PullNote, n.group = 4 → (tellApplied p own sender t t' (.pullResult n) s).rcu = s.rcu) ∧
    ∀ id a b, (tellApplied p own sender t t' (.unload id a b) s).rcu = s.rcu.stripLeft id ∧
      (tellApplied p own sender t t' (.writeOff id a b) s).rcu = s.rcu.stripLeft id) ∧
  ∀ r : Rcu, r.room = 64 - (r.ring.length + (r.resv.map (·.count)).sum)

/-- The port starts its operations in the order of R148: an owed header program, the header of a block being opened first; an
erase that the reserve of two FREE blocks lacks; then the oldest retraction or the record at the head of the write queue,
whichever was taken first, in turn with a record read of the fetch. A record takes the next number in the OPEN block's next
slot; without one the FREE block of the lowest erase count is opened, and the readable ranges of the blocks before it end
below its first number (R147, R149, R150). A SCANNING fetch with room for its RECORD notes first looks at its cursor: past the
end it closes with END; above the newest number it waits for the record that is owed, or closes with END there; in no readable
range it jumps to the next readable number, or past the end, each number passed over counted as lost (R160, R162). With fewer
than two FREE blocks and no erase under way the FULL block of the lowest sequence number is to be erased under WRAP, none
under STOP or without a plan (R151); STORE_FULL follows the store state (R154). A busy port, and a store in MOUNTING or FAULT,
starts nothing; a LOCKED one only reads. That a block which waits for its erase, or whose erase is complete and whose header
program is still owed, counts as under erase, for the erase choice and for STORE_FULL (assumption 28), is the model's reading.
Its choices: the lowest-numbered due block is erased first, and one beyond
the reserve last (assumption 27); the number is given when its program starts, the first sequence number is 1 (assumption 29);
the store and the cursor are looked at when an operation starts (assumption 31); a block is opened as soon as the record that
needs it is the next program (assumption 53); a retraction waits while an answer waits for room in the note queue (assumption
34), and leaves its list when the port takes it (assumption 63). -/
def Obligations.FlashPortStartsItsOperationsInOrder : Prop :=
  ∀ s : State, s.Ready →
    let r := s.rcu
    let starts := fun (o : FlashOp) (more : Rcu → Prop) =>
      ∃ t, exec .flashOpStart s = .next t ∧ t.rcu.port = some o ∧ t.flash = s.flash ∧ more t.rcu
    let idles := ∃ t, exec .flashOpStart s = .next t ∧ t.rcu.port = r.port ∧ t.flash = s.flash
    let retracts : Prop := ∃ x rest, r.retr = x :: rest ∧ x.behind = 0
    let writes : Prop := ¬retracts ∧ r.queue ≠ [] ∧ r.newest ≠ some 0xFFFFFFFE
    let opens : Prop := writes ∧ r.openBlock = none ∧ ∃ b ∈ r.blocks, b.st = .free
    let held : Prop := ∃ q ∈ s.lnk.waiting, q.producer = .rcu
    let erases : Prop := ∃ b ∈ r.blocks, b.st = .erasing .due
    let urgent : Prop := erases ∧ (r.blocks.filter (·.st == .free)).length < 2
    let firstDue := fun (i : Nat) => (∃ b, r.blocks[i]? = some b ∧ b.st = .erasing .due) ∧
      ∀ j < i, ∀ x, r.blocks[j]? = some x → x.st ≠ .erasing .due
    let erased := fun (i : Nat) => starts (.erase i) fun r' => ∃ x, r'.blocks[i]? = some x ∧
      x.st = .erasing .running ∧ x.first = none ∧ x.seq = none
    (r.port.isSome = true ∨ r.store = .mounting ∨ r.store = .fault → idles) ∧
    (r.port = none → r.store = .ready ∨ r.store = .full →
      (¬opens → ∀ a b i, r.owed = a ++ .opening i :: b → (∀ j, Owed.opening j ∉ a) →
        starts (.header (.opening i)) fun r' => r'.owed = a ++ b) ∧
      (¬opens → ∀ o b, r.owed = o :: b → (∀ j, Owed.opening j ∉ r.owed) → starts (.header o) fun r' => r'.owed = b) ∧
      (∀ i b, opens → (∀ j, Owed.opening j ∉ r.owed) → r.blocks[i]? = some b → b.st = .free →
        (∀ j x, r.blocks[j]? = some x → x.st = .free → b.erases < x.erases ∨ (b.erases = x.erases ∧ i ≤ j)) →
        starts (.header (.opening i)) fun r' => r'.owed = r.owed ∧ r'.queue = r.queue ∧
          (∃ x, r'.blocks[i]? = some x ∧ x.st = .opened ∧ x.first = some (r.newest.getD 0 + 1) ∧
            x.seq = some (((r.blocks.filterMap (·.seq)).max?).getD 0 + 1) ∧ x.written = 0) ∧
          ∀ j x, j ≠ i → r.blocks[j]? = some x → ∃ y, r'.blocks[j]? = some y ∧
            (x.st = .opened → y.st = .full ∨ y.st = .erasing .due) ∧
            (x.seq.isSome = true → x.lim = none → y.lim = some (r.newest.getD 0))) ∧
      (r.owed = [] → ¬opens →
        (∀ i, urgent → firstDue i → erased i) ∧
        (¬urgent → r.lastKind ≠ .program ∨ r.fetch = none →
          (∀ x rest, r.retr = x :: rest → x.behind = 0 → ¬held → starts (.mark x true) fun r' => r'.retr = rest) ∧
          (∀ i b, writes → r.openBlock = some i → r.blocks[i]? = some b →
            starts (.record i b.written (r.newest.getD 0 + 1) r.newest) fun r' =>
              r'.newest = some (r.newest.getD 0 + 1) ∧ r'.queue = r.queue)) ∧
        (¬urgent → r.fetch = none → (retracts ∧ held) ∨ (r.retr = [] ∧ r.queue = []) →
          (∀ i, firstDue i → erased i) ∧ (¬erases → idles)))) ∧
    (r.port = none → r.store = .locked ∨ ((r.store = .ready ∨ r.store = .full) ∧ r.owed = [] ∧ ¬opens ∧ ¬urgent ∧
        (r.lastKind = .program ∨ (r.retr = [] ∧ r.queue = []))) →
      ∀ f i k, r.fetch = some f → f.closing = false → r.outRec.length < 4 → f.cursor ≤ f.lim →
        r.locate f.cursor = some (i, k) → starts (.read i k true) fun r' => r'.fetch = some f) ∧
    (r.store = .locked → r.fetch = none → idles) ∧
    (∀ f, r.port = none → r.store ≠ .mounting → r.store ≠ .fault → r.fetch = some f → f.closing = false → r.outRec.length < 4 →
      let now := r.newest.getD 0
      let holds := fun (k : Nat) => ∃ b ∈ r.blocks, ∃ a, b.seq ≠ none ∧ b.first = some a ∧ r.newest ≠ none ∧ a ≤ k ∧
        k ≤ a + 1022 ∧ k ≤ now ∧ ∀ l, b.lim = some l → k ≤ l
      let owed : Prop := (r.store = .ready ∨ r.store = .full) ∧ r.queue ≠ []
      let becomes := fun (g : Fetch) => ∃ t, exec .flashOpStart s = .next t ∧ t.rcu.fetch = some g ∧ t.rcu.outRec = r.outRec ∧
        t.rcu.outEnd = (if g.closing then some (.fetchEnd g.requester g.tag 0 g.matches_ g.last g.lost g.bad) else r.outEnd)
      let jumps := fun (k : Nat) => { f with
        cursor := k, lost := min 65535 (f.lost + (k - f.cursor)), last := k - 1, closing := decide (f.lim < k) }
      (f.lim < f.cursor → becomes { f with closing := true }) ∧
      (f.cursor ≤ f.lim → now < f.cursor → owed → becomes f) ∧
      (f.cursor ≤ f.lim → now < f.cursor → ¬owed → becomes { f with lim := now, closing := true }) ∧
      (f.cursor ≤ f.lim → f.cursor ≤ now → holds f.cursor → becomes f) ∧
      (f.cursor ≤ f.lim → f.cursor ≤ now → ¬holds f.cursor →
        (∀ k, f.cursor ≤ k → holds k → (∀ j, f.cursor ≤ j → j < k → ¬holds j) → becomes (jumps k)) ∧
        ((∀ k, f.cursor ≤ k → ¬holds k) → becomes (jumps (f.lim + 1))))) ∧
    (r.store = .ready ∨ r.store = .full →
      r.port.isSome = true ∨ (r.owed = [] ∧ r.queue = [] ∧ r.retr = [] ∧ r.fetch = none ∧ ¬erases) →
      let few : Prop := (r.blocks.filter (·.st == .free)).length < 2
      let wrap : Prop := ∃ p, s.su.held = some p ∧ p.stopPolicy = false
      let busy : Prop := ∃ b ∈ r.blocks, ∃ e, b.st = .erasing e
      ∃ t, exec .flashOpStart s = .next t ∧
        (∀ i b, wrap → few → ¬busy → r.blocks[i]? = some b → b.st = .full →
          (∀ j x, r.blocks[j]? = some x → x.st = .full →
            b.seq.getD 0 < x.seq.getD 0 ∨ (b.seq.getD 0 = x.seq.getD 0 ∧ i ≤ j)) →
          t.rcu.blocks = r.blocks.set i { b with st := .erasing .due }) ∧
        (¬wrap ∨ ¬few ∨ busy ∨ (∀ b ∈ r.blocks, b.st ≠ .full) → t.rcu.blocks = r.blocks) ∧
        let full : Prop := (∃ p, s.su.held = some p ∧ p.stopPolicy = true ∧ few) ∨ r.newest = some 0xFFFFFFFE ∨
          ∀ b ∈ t.rcu.blocks, b.st ≠ .free ∧ (b.st = .opened → 1023 ≤ b.written) ∧ ∀ e, b.st ≠ .erasing e
        (full → t.rcu.store = .full ∧ (r.store = .ready → s.ocu.alarms = [] →
          ∃ e ∈ t.ocu.alarms, e.code = .storeFull ∧ e.st = .raised)) ∧
        (¬full → t.rcu.store = .ready ∧ (r.store = .full → ∀ i n, s.ocu.alarms = [⟨.storeFull, .raised, i, n⟩] →
          ∃ e ∈ t.ocu.alarms, e.code = .storeFull ∧ e.st = .clearedUnacked)))

/-- A record program ends (R146, R150, R153). Done, the record stands in its slot in the bytes of R182 (its bits cleared there
and nowhere else), has left the queue with its trace entry, the failure count is 0, and while the store has room one entry
that waits for a place enters the queue for each free one, in the order of the outcomes. Failed, the block is BAD with its bad
mark owed, the record keeps its place and loses its number; a second failure in a row puts the store in FAULT with queue, ring
and retractions discarded, the running fetch closed with STORE_FAULT (R162) and STORE_FAULT raised. A block whose last slot is
written is FULL, or already chosen for its erase (R151). What a failed program leaves in its slot is open (assumption 7); the
newest number was given when the program began (assumption 29). -/
def Obligations.RecordProgramEnds : Prop :=
  ∀ (s : State) (i slot num : Nat) (before : Option Nat) (b : RecBody) (rest : List RecBody) (blk : Block), s.Ready →
    Memory.wf s.flash = true → i < 64 → slot < 1023 → s.rcu.port = some (.record i slot num before) →
    s.rcu.queue = b :: rest → s.rcu.blocks[i]? = some blk → s.rcu.store = .ready ∨ s.rcu.store = .full →
    let base := 65536 * i + 32 + 64 * slot
    let outside := fun (t : State) => ∀ a, a < base ∨ base + 64 ≤ a → flashRead t.flash a = flashRead s.flash a
    let bytes := fun (w n : Nat) => (List.range w).map fun k => BitVec.ofNat 8 (n / 256 ^ k)
    let body := bytes 4 num ++ bytes 1 b.kind ++ bytes 1 s.stn ++ bytes 2 b.strip ++ bytes 1 b.unit ++ bytes 1 b.group ++
      bytes 1 b.wire ++ bytes 2 b.index ++ bytes 2 b.meas.height ++ bytes 1 b.meas.deform ++ bytes 2 b.meas.energy ++
      bytes 1 b.meas.time ++ bytes 1 b.retries ++ bytes 1 b.pullStn ++ bytes 2 b.force ++ bytes 1 b.mode ++
      bytes 1 b.verdict ++ List.replicate 36 0x00#8
    let record := body ++ bytes 2 (crc16 body).toNat ++ [0xFF#8]
    let waits := fun (e : TraceEntry) => !e.writing && e.outcome.isSome
    let left := if b.kind = RecKind.orphan then s.rcu.ring
      else dropFirst (fun e => e.isWire b.strip b.unit b.group b.wire && e.writing) s.rcu.ring
    let room : Prop := (blk.st = .opened ∧ blk.written + 1 < 1023) ∨
      ∃ x ∈ s.rcu.blocks, x.st = .free ∨ ∃ e, x.st = .erasing e
    (room ∨ (rest = [] ∧ ∀ e ∈ s.rcu.ring, waits e = false) → ∃ t x, exec .recordProgramDone s = .next t ∧
      outside t ∧ (∀ k < 64, flashRead t.flash (base + k) = flashRead s.flash (base + k) &&& record.getD k 0) ∧
      t.rcu.port = none ∧ t.rcu.queue = rest ++ ((left.filter waits).take (8 - rest.length)).map (·.record) ∧
      t.rcu.fails = 0 ∧ t.rcu.newest = s.rcu.newest ∧
      t.rcu.blocks[i]? = some x ∧ x.written = blk.written + 1 ∧
      (blk.st = .opened → blk.written + 1 < 1023 → x.st = .opened) ∧
      (blk.st = .opened → 1023 ≤ blk.written + 1 → x.st = .full ∨ x.st = .erasing .due) ∧
      t.rcu.ring.length = left.length ∧ ∀ k e, left[k]? = some e → t.rcu.ring[k]? =
        some (if waits e ∧ ((left.take k).filter waits).length < 8 - rest.length then { e with writing := true } else e)) ∧
    (s.rcu.fails = 0 → (∃ x ∈ s.rcu.blocks, x.st = .free) → blk.st = .opened →
      ∃ t x, exec .recordProgramFail s = .next t ∧ outside t ∧
        t.rcu.port = none ∧ t.rcu.queue = s.rcu.queue ∧ t.rcu.ring = s.rcu.ring ∧ t.rcu.fails = 1 ∧ t.rcu.newest = before ∧
        t.rcu.owed = s.rcu.owed ++ [.badMark i] ∧ t.rcu.blocks[i]? = some x ∧ x.st = .bad) ∧
    (s.rcu.fails = 1 → ∃ t, exec .recordProgramFail s = .next t ∧ outside t ∧ t.rcu.store = .fault ∧
      t.rcu.port = none ∧ t.rcu.queue = [] ∧ t.rcu.ring = [] ∧ t.rcu.retr = [] ∧ t.rcu.fails = 2 ∧
      t.rcu.discarded = min 65535 (s.rcu.discarded + s.rcu.queue.length) ∧
      t.rcu.lost = min 65535 (s.rcu.lost + s.rcu.ring.length) ∧
      (s.ocu.alarms.length < 8 → ∃ e ∈ t.ocu.alarms, e.code = .storeFault) ∧ t.rcu.outRec = s.rcu.outRec ∧
      (∀ f, s.rcu.fetch = some f → f.closing = false → t.rcu.fetch = some { f with closing := true } ∧
        t.rcu.outEnd = some (.fetchEnd f.requester f.tag 3 f.matches_ f.last f.lost f.bad)) ∧
      ∀ x ∈ s.rcu.retr, (⟨.answer x.requester x.tag 3, .rcu, false⟩ : QNote) ∈ t.lnk.queue ++ t.lnk.waiting)

/-- Header programs and erases end (R150, R152, R153). An opened block's header takes its sequence and first number, an erased
block's its erase count, and the erased block is FREE; an erase leaves every byte of its block 0xFF and owes that header; a bad
mark reads 0x00. A failed header or erase makes its block BAD with the mark owed; only the header counts as a failure. That a
failed operation changes no byte but its own, whatever it leaves in them, is the model's choice (assumption 7). -/
def Obligations.HeaderProgramsAndErasesEnd : Prop :=
  ∀ (s : State) (i : Nat) (b : Block), s.Ready → Memory.wf s.flash = true → i < 64 → s.rcu.blocks[i]? = some b →
    s.rcu.store = .ready ∨ s.rcu.store = .full →
    let base := 65536 * i
    let kept := fun (lo n : Nat) (t : State) => ∀ a, a < base + lo ∨ base + lo + n ≤ a →
      flashRead t.flash a = flashRead s.flash a
    let has := fun (t : State) (st : BlockSt) => ∃ x, t.rcu.blocks[i]? = some x ∧ x.st = st
    let bad := fun (t : State) => t.rcu.port = none ∧ has t .bad ∧ t.rcu.owed = s.rcu.owed ++ [.badMark i]
    (∀ q f, s.rcu.port = some (.header (.opening i)) → b.seq = some q → b.first = some f →
      (∃ t, exec .headerProgramDone s = .next t ∧ t.rcu.port = none ∧ t.rcu.owed = s.rcu.owed ∧ kept 5 8 t ∧
        ∀ k < 8, flashRead t.flash (base + 5 + k) = flashRead s.flash (base + 5 + k) &&& (le32 q ++ le32 f).getD k 0) ∧
      (s.rcu.fails = 0 → ∃ t, exec .headerProgramFail s = .next t ∧ bad t ∧ t.rcu.fails = 1 ∧ kept 5 8 t)) ∧
    (s.rcu.port = some (.header (.erased i)) →
      (∃ t, exec .headerProgramDone s = .next t ∧ t.rcu.port = none ∧ t.rcu.owed = s.rcu.owed ∧ has t .free ∧ kept 0 4 t ∧
        ∀ k < 4, flashRead t.flash (base + k) = flashRead s.flash (base + k) &&& (le32 b.erases).getD k 0) ∧
      (s.rcu.fails = 0 → ∃ t, exec .headerProgramFail s = .next t ∧ bad t ∧ t.rcu.fails = 1 ∧ kept 0 4 t)) ∧
    (s.rcu.port = some (.erase i) →
      (∃ t x, exec .eraseDone s = .next t ∧ t.rcu.port = none ∧ t.rcu.blocks[i]? = some x ∧ x.st = .erasing .header ∧
        x.erases = b.erases + 1 ∧ t.rcu.owed = s.rcu.owed ++ [.erased i] ∧ kept 0 65536 t ∧
        ∀ k < 65536, flashRead t.flash (base + k) = 0xFF#8) ∧
      ∃ t, exec .eraseFail s = .next t ∧ bad t ∧ t.rcu.fails = s.rcu.fails ∧ kept 0 65536 t) ∧
    (s.rcu.port = some (.header (.badMark i)) → ∀ done, ∃ t, exec (.badMarkProgramDone done) s = .next t ∧
      t.rcu.port = none ∧ t.rcu.owed = s.rcu.owed ∧ t.rcu.fails = s.rcu.fails ∧ kept 4 1 t ∧
      (done = true → flashRead t.flash (base + 4) = 0#8))

/-- A retraction carried out is answered by what it found (R157, R164): a number no longer readable is not found, a mark
already other than 0xFF is already retracted, and else the mark reads back as `mark` and the answer is retracted, or refused
when it still reads 0xFF. No other byte of the flash changes. A record read by the scan moves the cursor on and is counted bad,
skipped, passed over or returned by what it holds: kind, strip, verdict and force against the fetch's criteria (R160). A number
is found in the first block whose readable range holds it, in the slot as far behind the block's first number (R149). That the
whole retraction is judged when it ends (assumption 31), and that the mark then reads as the command's operand says (assumption
7), are the model's choices. -/
def Obligations.RetractionsAndReadsEnd : Prop :=
  (∀ (r : Rcu) (n i k : Nat),
    let holds := fun (i k : Nat) => ∃ b f newest, r.blocks[i]? = some b ∧ b.seq.isSome = true ∧ b.first = some f ∧
      r.newest = some newest ∧ n = f + k ∧ k < 1023 ∧ n ≤ newest ∧ ∀ l, b.lim = some l → n ≤ l
    (r.locate n = some (i, k) ↔ holds i k ∧ ∀ j < i, ∀ k', ¬holds j k') ∧
    (r.locate n = none ↔ ∀ j k', ¬holds j k')) ∧
  ∀ s : State, s.Ready → Memory.wf s.flash = true → s.rcu.blocks.length = 64 →
    s.rcu.store = .ready ∨ s.rcu.store = .full ∨ s.rcu.store = .locked →
    (∀ x mark, s.rcu.port = some (.mark x true) → ∃ t, exec (.retractionDone mark) s = .next t ∧ t.rcu.port = none ∧
      let answered := fun (code : Nat) => (⟨.answer x.requester x.tag code, .rcu, false⟩ : QNote) ∈ t.lnk.queue ++ t.lnk.waiting
      (s.rcu.locate x.number = none → answered 1 ∧ t.flash = s.flash) ∧
      ∀ i slot, s.rcu.locate x.number = some (i, slot) → slot < 1023 →
        let a := 65536 * i + 32 + 64 * slot + 63
        (flashRead s.flash a ≠ 0xFF#8 → answered 2 ∧ t.flash = s.flash) ∧
        (flashRead s.flash a = 0xFF#8 → answered (if mark = 0xFF#8 then 3 else 0) ∧ flashRead t.flash a = mark ∧
          ∀ a' ≠ a, flashRead t.flash a' = flashRead s.flash a')) ∧
    ∀ i slot f, s.rcu.port = some (.read i slot true) → s.rcu.fetch = some f → f.closing = false →
      let bs := (List.range 64).map fun k => flashRead s.flash (65536 * i + 32 + 64 * slot + k)
      let on : Fetch := { f with last := f.cursor, cursor := f.cursor + 1 }
      let good : Prop := rd16 bs 61 = (crc16 (bs.take 61)).toNat
      let skipped : Prop := f.skip = true ∧ bs.getD 63 0 ≠ 0xFF#8
      let kind := rd8 bs 4
      let force := rd16 bs 21
      let meets : Prop := (1 ≤ kind ∧ kind ≤ 3 ∧ f.kinds.testBit (kind - 1) = true) ∧ (f.strip = 0 ∨ f.strip = rd16 bs 6) ∧
        (rd8 bs 24 ≤ 4 ∧ f.verdicts.testBit (rd8 bs 24) = true) ∧
        (f.cmp = 0 ∨ (f.cmp = 1 ∧ force = f.value) ∨ (f.cmp = 2 ∧ force ≤ f.value) ∨ (f.cmp = 3 ∧ f.value ≤ force))
      ∃ t, exec .recordReadDone s = .next t ∧ t.rcu.port = none ∧ t.flash = s.flash ∧
        (¬good → t.rcu.fetch = some { on with bad := min 65535 (f.bad + 1) } ∧ t.rcu.outRec = s.rcu.outRec) ∧
        (good → skipped ∨ ¬meets → t.rcu.fetch = some on ∧ t.rcu.outRec = s.rcu.outRec) ∧
        (good → ¬skipped → meets →
          t.rcu.outRec = s.rcu.outRec ++ [.record f.requester f.tag bs] ∧
          t.rcu.fetch = some { on with matches_ := f.matches_ + 1, closing := decide (f.matches_ + 1 = f.max) } ∧
          (f.matches_ + 1 = f.max → t.rcu.outEnd =
            some (.fetchEnd f.requester f.tag 1 (f.matches_ + 1) f.cursor f.lost f.bad)))
end

