-- ==== Sys2Proof/Laws/Frame.lean ====
section
/-! SUPPORT. What no event but a flash operation touches: the flash, the model's counter and the waiting commands. -/

set_option linter.all false

namespace Sys2Proof.Machine

/-- What lies outside the blocks: the flash, the counter for free values, the commands waiting. -/
def State.outer (s : State) : List Host.Cell × Nat × List Instr := (s.flash, s.free, s.pending)

@[simp] theorem outer_mk (s : State) (su lnk ctu wsc bsq tmu rcu ocu) :
    State.outer ⟨su, lnk, ctu, wsc, bsq, tmu, rcu, ocu, s.flash, s.free, s.pending⟩ = s.outer := rfl

@[simp] theorem foldl_outer {α : Type} (f : State → α → State) (h : ∀ s x, (f s x).outer = s.outer) (l : List α)
    (s : State) : (l.foldl f s).outer = s.outer := by
  induction l generalizing s with
  | nil => rfl
  | cons a l ih => rw [List.foldl_cons, ih, h]

@[simp] theorem raise_outer (a : Alarm) (s : State) : (raise a s).outer = s.outer := by
  unfold raise; (try dsimp only); (repeat' split) <;> first | (simp; done) | rfl

@[simp] theorem clearAlarm_outer (a : Alarm) (s : State) : (clearAlarm a s).outer = s.outer := by
  unfold clearAlarm; (try dsimp only); (repeat' split) <;> first | (simp; done) | rfl

@[simp] theorem edgeAlarm_outer (a : Alarm) (before after : Bool) (s : State) : (edgeAlarm a before after s).outer = s.outer := by
  unfold edgeAlarm; (try dsimp only); (repeat' split) <;> first | (simp; done) | rfl

@[simp] theorem place_outer (by_ : Producer) (n : Note) (s : State) : (place by_ n s).outer = s.outer := by
  unfold place; (try dsimp only); (repeat' split) <;> first | (simp; done) | rfl

@[simp] theorem storeSettle_outer (s : State) : (storeSettle s).outer = s.outer := by
  unfold storeSettle; (try dsimp only); (repeat' split) <;> first | (simp; done) | rfl

@[simp] theorem enterStoreFault_outer (s : State) : (enterStoreFault s).outer = s.outer := by
  unfold enterStoreFault; (try dsimp only); (repeat' split) <;> first | (simp; done) | rfl

@[simp] theorem countFailure_outer (s : State) : (countFailure s).outer = s.outer := by
  unfold countFailure; (try dsimp only); (repeat' split) <;> first | (simp; done) | rfl

@[simp] theorem handleFetch_outer (requester : Nat) (f : FetchNote) (s : State) : (handleFetch requester f s).outer = s.outer := by
  unfold handleFetch; (try dsimp only); (repeat' split) <;> first | (simp; done) | rfl

@[simp] theorem handleCancel_outer (tag : Nat) (s : State) : (handleCancel tag s).outer = s.outer := by
  unfold handleCancel; (try dsimp only); (repeat' split) <;> first | (simp; done) | rfl

@[simp] theorem handleRetract_outer (requester tag n : Nat) (s : State) : (handleRetract requester tag n s).outer = s.outer := by
  unfold handleRetract; (try dsimp only); (repeat' split) <;> first | (simp; done) | rfl

@[simp] theorem dropClaims_outer (f : OwnClaim → Bool) (s : State) : (dropClaims f s).outer = s.outer := by
  unfold dropClaims; (try dsimp only); (repeat' split) <;> first | (simp; done) | rfl

@[simp] theorem closeQueued_outer (f : OwnClaim → Bool) (s : State) : (closeQueued f s).outer = s.outer := by
  unfold closeQueued; (try dsimp only); (repeat' split) <;> first | (simp; done) | rfl

@[simp] theorem selectOne_outer (s : State) : (selectOne s).outer = s.outer := by
  unfold selectOne; (try dsimp only); (repeat' split) <;> first | (simp; done) | rfl

@[simp] theorem closeUntestable_outer (s : State) (x : Nat × Nat × Nat) : (closeUntestable s x).outer = s.outer := by
  unfold closeUntestable; (try dsimp only); (repeat' split) <;> first | (simp; done) | rfl

@[simp] theorem select_outer (s : State) : (select s).outer = s.outer := by
  unfold select; (try dsimp only); (repeat' split) <;> first | (simp; done) | rfl

@[simp] theorem skipOne_outer (t : Table) (s : State) (k : SkipReq) : (skipOne t s k).outer = s.outer := by
  unfold skipOne; (try dsimp only); (repeat' split) <;> first | (simp; done) | rfl

@[simp] theorem endSkips_outer (f : SkipReq → Bool) (s : State) : (endSkips f s).outer = s.outer := by
  unfold endSkips; (try dsimp only); (repeat' split) <;> first | (simp; done) | rfl

@[simp] theorem dropStray_outer (s : State) : (dropStray s).outer = s.outer := rfl

@[simp] theorem settleStray_outer (t : Table) (s : State) : (settleStray t s).outer = s.outer := by
  unfold settleStray; split <;> rfl

@[simp] theorem endUntestable_outer (n : PullNote) (s : State) : (endUntestable n s).outer = s.outer := by
  unfold endUntestable; split <;> rfl

@[simp] theorem skipScan_outer (s : State) : (skipScan s).outer = s.outer := by
  unfold skipScan; (try dsimp only); (repeat' split) <;> first | (simp; done) | rfl

@[simp] theorem requestSkip_outer (w u : Nat) (s : State) : (requestSkip w u s).outer = s.outer := by
  unfold requestSkip; (try dsimp only); (repeat' split) <;> first | (simp; done) | rfl

@[simp] theorem skipAnswered_outer (applied : Bool) (w u : Nat) (s : State) : (skipAnswered applied w u s).outer = s.outer := by
  unfold skipAnswered; (try dsimp only); (repeat' split) <;> first | (simp; done) | rfl

@[simp] theorem dropSkips_outer (s : State) : (dropSkips s).outer = s.outer := by
  unfold dropSkips; (try dsimp only); (repeat' split) <;> first | (simp; done) | rfl

@[simp] theorem startTakt_outer (s : State) : (startTakt s).outer = s.outer := by
  unfold startTakt; (try dsimp only); (repeat' split) <;> first | (simp; done) | rfl

@[simp] theorem clearWsc_outer (s : State) : (clearWsc s).outer = s.outer := by
  unfold clearWsc; (try dsimp only); (repeat' split) <;> first | (simp; done) | rfl

@[simp] theorem startVoteRec_outer (s : State) : (startVoteRec s).outer = s.outer := by
  unfold startVoteRec; (try dsimp only); (repeat' split) <;> first | (simp; done) | rfl

@[simp] theorem settleVoteRec_outer (s : State) : (settleVoteRec s).outer = s.outer := by
  unfold settleVoteRec; (try dsimp only); (repeat' split) <;> first | (simp; done) | rfl

@[simp] theorem sendHead_outer (c : HeadCmd) (s : State) : (sendHead c s).outer = s.outer := by
  unfold sendHead; (try dsimp only); (repeat' split) <;> first | (simp; done) | rfl

@[simp] theorem reportEnd_outer (n : Note) (s : State) : (reportEnd n s).outer = s.outer := by
  unfold reportEnd; (try dsimp only); (repeat' split) <;> first | (simp; done) | rfl

@[simp] theorem startClaim_outer (e : WorkEntry) (s : State) : (startClaim e s).outer = s.outer := by
  unfold startClaim; (try dsimp only); (repeat' split) <;> first | (simp; done) | rfl

@[simp] theorem workGroup_outer (e : WorkEntry) (c : Cursor) (s : State) : (workGroup e c s).outer = s.outer := by
  unfold workGroup; (try dsimp only); (repeat' split) <;> first | (simp; done) | rfl

@[simp] theorem workTest_outer (e : WorkEntry) (c : Cursor) (s : State) : (workTest e c s).outer = s.outer := by
  unfold workTest; (try dsimp only); (repeat' split) <;> first | (simp; done) | rfl

@[simp] theorem workHead_outer (e : WorkEntry) (s : State) : (workHead e s).outer = s.outer := by
  unfold workHead; (try dsimp only); (repeat' split) <;> first | (simp; done) | rfl

@[simp] theorem endStopped_outer (s : State) : (endStopped s).outer = s.outer := by
  unfold endStopped; (try dsimp only); (repeat' split) <;> first | (simp; done) | rfl

@[simp] theorem stopEnded_outer (s : State) : (s.stopEnded).outer = s.outer := by
  unfold State.stopEnded; (try dsimp only); (repeat' split) <;> first | (simp; done) | rfl

@[simp] theorem parkStopped_outer (s : State) : (parkStopped s).outer = s.outer := by
  unfold parkStopped; (try dsimp only); (repeat' split) <;> first | (simp; done) | rfl

@[simp] theorem driveStep_outer (s : State) : (driveStep s).outer = s.outer := by
  unfold driveStep; (try dsimp only); (repeat' split) <;> first | (simp; done) | rfl

@[simp] theorem driveN_outer (n : Nat) (s : State) : (driveN n s).outer = s.outer := by
  induction n generalizing s with
  | zero => rfl
  | succ n ih => simp [driveN, ih]

@[simp] theorem drive_outer (s : State) : (drive s).outer = s.outer := by
  unfold drive; (try dsimp only); (repeat' split) <;> first | (simp; done) | rfl

@[simp] theorem releaseWork_outer (f : WorkEntry → Bool) (s : State) : (releaseWork f s).outer = s.outer := by
  unfold releaseWork; (try dsimp only); (repeat' split) <;> first | (simp; done) | rfl

@[simp] theorem dropMarked_outer (s : State) : (dropMarked s).outer = s.outer := by
  unfold dropMarked; (try dsimp only); (repeat' split) <;> first | (simp; done) | rfl

@[simp] theorem enterHalted_outer (s : State) : (enterHalted s).outer = s.outer := by
  unfold enterHalted; (try dsimp only); (repeat' split) <;> first | (simp; done) | rfl

@[simp] theorem enterSpoolOut_outer (s : State) : (enterSpoolOut s).outer = s.outer := by
  unfold enterSpoolOut; (try dsimp only); (repeat' split) <;> first | (simp; done) | rfl

@[simp] theorem actAlert_outer (a : AlertKind) (s : State) : (actAlert a s).outer = s.outer := by
  unfold actAlert; (try dsimp only); (repeat' split) <;> first | (simp; done) | rfl

@[simp] theorem leaveHalt_outer (pos : HeadPos) (s : State) : (leaveHalt pos s).outer = s.outer := by
  unfold leaveHalt; (try dsimp only); (repeat' split) <;> first | (simp; done) | rfl

@[simp] theorem setHead_outer (h : HeadPos) (s : State) : (setHead h s).outer = s.outer := by
  unfold setHead; (try dsimp only); (repeat' split) <;> first | (simp; done) | rfl

@[simp] theorem wireDone_outer (m : Meas) (s : State) : (wireDone m s).outer = s.outer := by
  unfold wireDone; (try dsimp only); (repeat' split) <;> first | (simp; done) | rfl

@[simp] theorem wireMissed_outer (s : State) : (wireMissed s).outer = s.outer := by
  unfold wireMissed; (try dsimp only); (repeat' split) <;> first | (simp; done) | rfl

@[simp] theorem pullOutcome_outer (res : Nat → Nat × Nat × Nat) (s : State) : (pullOutcome res s).outer = s.outer := by
  unfold pullOutcome; (try dsimp only); (repeat' split) <;> first | (simp; done) | rfl

@[simp] theorem hookMissed_outer (s : State) : (hookMissed s).outer = s.outer := by
  unfold hookMissed; (try dsimp only); (repeat' split) <;> first | (simp; done) | rfl

@[simp] theorem answerCmd_outer (cmd : HeadCmd) (c : Completion) (s : State) : (answerCmd cmd c s).outer = s.outer := by
  unfold answerCmd; (try dsimp only); (repeat' split) <;> first | (simp; done) | rfl

@[simp] theorem endClaims_outer (s : State) : (endClaims s).outer = s.outer := by
  unfold endClaims; (try dsimp only); (repeat' split) <;> first | (simp; done) | rfl

@[simp] theorem endCmd_outer (o : Outstanding) (c : Completion) (s : State) : (endCmd o c s).outer = s.outer := by
  unfold endCmd; (try dsimp only); (repeat' split) <;> first | (simp; done) | rfl

@[simp] theorem headAnswer_outer (tag : Byte) (c : Completion) (s : State) : (headAnswer tag c s).outer = s.outer := by
  unfold headAnswer; (try dsimp only); (repeat' split) <;> first | (simp; done) | rfl

@[simp] theorem headExpired_outer (s : State) : (headExpired s).outer = s.outer := by
  unfold headExpired; (try dsimp only); (repeat' split) <;> first | (simp; done) | rfl

@[simp] theorem handClaim_outer (e : OwnClaim) (s : State) : (handClaim e s).outer = s.outer := by
  unfold handClaim; (try dsimp only); (repeat' split) <;> first | (simp; done) | rfl

@[simp] theorem closeWork_outer (f : WorkEntry → Bool) (s : State) : (closeWork f s).outer = s.outer := by
  unfold closeWork; (try dsimp only); (repeat' split) <;> first | (simp; done) | rfl

@[simp] theorem closeClaims_outer (f : Nat → Bool) (s : State) : (closeClaims f s).outer = s.outer := by
  unfold closeClaims; (try dsimp only); (repeat' split) <;> first | (simp; done) | rfl

@[simp] theorem loseClaim_outer (w u g : Nat) (s : State) : (loseClaim w u g s).outer = s.outer := by
  unfold loseClaim; (try dsimp only); (repeat' split) <;> first | (simp; done) | rfl

@[simp] theorem stopWork_outer (s : State) : (stopWork s).outer = s.outer := by
  unfold stopWork; (try dsimp only); (repeat' split) <;> first | (simp; done) | rfl

@[simp] theorem indexPark_outer (s : State) : (indexPark s).outer = s.outer := by
  unfold indexPark; (try dsimp only); (repeat' split) <;> first | (simp; done) | rfl

@[simp] theorem takePause_outer (s : State) : (takePause s).outer = s.outer := by
  unfold takePause; (try dsimp only); (repeat' split) <;> first | (simp; done) | rfl

@[simp] theorem takeResume_outer (s : State) : (takeResume s).outer = s.outer := by
  unfold takeResume; (try dsimp only); (repeat' split) <;> first | (simp; done) | rfl

@[simp] theorem takeClear_outer (st : BState) (s : State) : (takeClear st s).outer = s.outer := by
  unfold takeClear; (try dsimp only); (repeat' split) <;> first | (simp; done) | rfl

@[simp] theorem restartBsq_outer (s : State) : (restartBsq s).outer = s.outer := by
  unfold restartBsq; (try dsimp only); (repeat' split) <;> first | (simp; done) | rfl

@[simp] theorem restBsq_outer (s : State) : (restBsq s).outer = s.outer := by
  unfold restBsq; (try dsimp only); (repeat' split) <;> first | (simp; done) | rfl

@[simp] theorem settle_outer (always : Bool) (old : State) (s : State) : (settle always old s).outer = s.outer := by
  unfold settle; (try dsimp only); (repeat' split) <;> first | (simp; done) | rfl

@[simp] theorem sense_outer (lv : Levels) (s : State) : (sense lv s).outer = s.outer := by
  unfold sense; (try dsimp only); (repeat' split) <;> first | (simp; done) | rfl

@[simp] theorem setClamp_outer (c : ClampSt) (s : State) : (setClamp c s).outer = s.outer := by
  unfold setClamp; (try dsimp only); (repeat' split) <;> first | (simp; done) | rfl

@[simp] theorem tellOpen_outer (b : Bool) (s : State) : (tellOpen b s).outer = s.outer := by
  unfold tellOpen; (try dsimp only); (repeat' split) <;> first | (simp; done) | rfl

@[simp] theorem openClamp_outer (s : State) : (openClamp s).outer = s.outer := by
  unfold openClamp; (try dsimp only); (repeat' split) <;> first | (simp; done) | rfl

@[simp] theorem closeClamp_outer (s : State) : (closeClamp s).outer = s.outer := by
  unfold closeClamp; (try dsimp only); (repeat' split) <;> first | (simp; done) | rfl

@[simp] theorem takeUpClamp_outer (s : State) : (takeUpClamp s).outer = s.outer := by
  unfold takeUpClamp; (try dsimp only); (repeat' split) <;> first | (simp; done) | rfl

@[simp] theorem clearClamp_outer (s : State) : (clearClamp s).outer = s.outer := by
  unfold clearClamp; (try dsimp only); (repeat' split) <;> first | (simp; done) | rfl

@[simp] theorem startBeam_outer (s : State) : (startBeam s).outer = s.outer := by
  unfold startBeam; (try dsimp only); (repeat' split) <;> first | (simp; done) | rfl

@[simp] theorem motionNote_outer (m : Bool) (n : Note) (s : State) : (motionNote m n s).outer = s.outer := by
  unfold motionNote; (try dsimp only); (repeat' split) <;> first | (simp; done) | rfl

@[simp] theorem faultBeam_outer (cause : Nat) (s : State) : (faultBeam cause s).outer = s.outer := by
  unfold faultBeam; (try dsimp only); (repeat' split) <;> first | (simp; done) | rfl

@[simp] theorem indexOpens_outer (s : State) : (indexOpens s).outer = s.outer := by
  unfold indexOpens; (try dsimp only); (repeat' split) <;> first | (simp; done) | rfl

@[simp] theorem indexCloses_outer (s : State) : (indexCloses s).outer = s.outer := by
  unfold indexCloses; (try dsimp only); (repeat' split) <;> first | (simp; done) | rfl

@[simp] theorem putElev_outer (m : MagName) (e : Elev) (s : State) : (putElev m e s).outer = s.outer := by
  unfold putElev; (try dsimp only); (repeat' split) <;> first | (simp; done) | rfl

@[simp] theorem chooseTarget_outer (m : MagName) (s : State) : (chooseTarget m s).outer = s.outer := by
  unfold chooseTarget; (try dsimp only); (repeat' split) <;> first | (simp; done) | rfl

@[simp] theorem scanEnd_outer (m : MagName) (s : State) : (scanEnd m s).outer = s.outer := by
  unfold scanEnd; (try dsimp only); (repeat' split) <;> first | (simp; done) | rfl

@[simp] theorem scanSlot_outer (m : MagName) (i : Nat) (s : State) : (scanSlot m i s).outer = s.outer := by
  unfold scanSlot; (try dsimp only); (repeat' split) <;> first | (simp; done) | rfl

@[simp] theorem homeFound_outer (m : MagName) (s : State) : (homeFound m s).outer = s.outer := by
  unfold homeFound; (try dsimp only); (repeat' split) <;> first | (simp; done) | rfl

@[simp] theorem startHoming_outer (m : MagName) (s : State) : (startHoming m s).outer = s.outer := by
  unfold startHoming; (try dsimp only); (repeat' split) <;> first | (simp; done) | rfl

@[simp] theorem takeUpElev_outer (m : MagName) (s : State) : (takeUpElev m s).outer = s.outer := by
  unfold takeUpElev; (try dsimp only); (repeat' split) <;> first | (simp; done) | rfl

@[simp] theorem stepElev_outer (m : MagName) (s : State) : (stepElev m s).outer = s.outer := by
  unfold stepElev; (try dsimp only); (repeat' split) <;> first | (simp; done) | rfl

@[simp] theorem putPush_outer (p : PusherName) (x : Push) (s : State) : (putPush p x s).outer = s.outer := by
  unfold putPush; (try dsimp only); (repeat' split) <;> first | (simp; done) | rfl

@[simp] theorem faultPush_outer (p : PusherName) (s : State) : (faultPush p s).outer = s.outer := by
  unfold faultPush; (try dsimp only); (repeat' split) <;> first | (simp; done) | rfl

@[simp] theorem takeUpPush_outer (p : PusherName) (s : State) : (takeUpPush p s).outer = s.outer := by
  unfold takeUpPush; (try dsimp only); (repeat' split) <;> first | (simp; done) | rfl

@[simp] theorem countMissed_outer (id : Nat) (s : State) : (countMissed id s).outer = s.outer := by
  unfold countMissed; (try dsimp only); (repeat' split) <;> first | (simp; done) | rfl

@[simp] theorem report_outer (p : PusherName) (n : Note) (s : State) : (report p n s).outer = s.outer := by
  unfold report; (try dsimp only); (repeat' split) <;> first | (simp; done) | rfl

@[simp] theorem finishPush_outer (p : PusherName) (s : State) : (finishPush p s).outer = s.outer := by
  unfold finishPush; (try dsimp only); (repeat' split) <;> first | (simp; done) | rfl

@[simp] theorem pushAnswered_outer (applied : Bool) (n : Note) (p : PusherName) (s : State) : (pushAnswered applied n p s).outer = s.outer := by
  unfold pushAnswered; (try dsimp only); (repeat' split) <;> first | (simp; done) | rfl

@[simp] theorem takeSeated_outer (s : State) : (takeSeated s).outer = s.outer := by
  unfold takeSeated; (try dsimp only); (repeat' split) <;> first | (simp; done) | rfl

@[simp] theorem takeRemoved_outer (s : State) : (takeRemoved s).outer = s.outer := by
  unfold takeRemoved; (try dsimp only); (repeat' split) <;> first | (simp; done) | rfl

@[simp] theorem takeUpFeed_outer (s : State) : (takeUpFeed s).outer = s.outer := by
  unfold takeUpFeed; (try dsimp only); (repeat' split) <;> first | (simp; done) | rfl

@[simp] theorem takeUpUnload_outer (s : State) : (takeUpUnload s).outer = s.outer := by
  unfold takeUpUnload; (try dsimp only); (repeat' split) <;> first | (simp; done) | rfl

@[simp] theorem takeUp_outer (s : State) : (takeUp s).outer = s.outer := by
  unfold takeUp; (try dsimp only); (repeat' split) <;> first | (simp; done) | rfl

@[simp] theorem giveUp_outer (s : State) : (giveUp s).outer = s.outer := by
  unfold giveUp; (try dsimp only); (repeat' split) <;> first | (simp; done) | rfl

@[simp] theorem restElev_outer (m : MagName) (s : State) : (restElev m s).outer = s.outer := putElev_outer _ _ _

@[simp] theorem restElevs_outer (s : State) : (restElevs s).outer = s.outer := by simp [restElevs]

@[simp] theorem restartTmu_outer (s : State) : (restartTmu s).outer = s.outer := by
  unfold restartTmu; (try dsimp only); (repeat' split) <;> first | (simp; done) | rfl

@[simp] theorem judgeMags_outer (s : State) : (judgeMags s).outer = s.outer := by
  unfold judgeMags; (try dsimp only); (repeat' split) <;> first | (simp; done) | rfl

@[simp] theorem settleClampWait_outer (s : State) : (settleClampWait s).outer = s.outer := by
  unfold settleClampWait; (try dsimp only); (repeat' split) <;> first | (simp; done) | rfl

@[simp] theorem closeClass_outer (c : Nat) (s : State) : (closeClass c s).outer = s.outer := by
  unfold closeClass; (try dsimp only); (repeat' split) <;> first | (simp; done) | rfl

@[simp] theorem judgeHolds_outer (failing : Bool) (old : State) (s : State) : (judgeHolds failing old s).outer = s.outer := by
  unfold judgeHolds; (try dsimp only); (repeat' split) <;> first | (simp; done) | rfl

@[simp] theorem reView_outer (failing : Bool) (old : State) (s : State) : (reView failing old s).outer = s.outer := by
  unfold reView; (try dsimp only); (repeat' split) <;> first | (simp; done) | rfl

@[simp] theorem moveLost_outer (s : State) : (moveLost s).outer = s.outer := by
  unfold moveLost; (try dsimp only); (repeat' split) <;> first | (simp; done) | rfl

@[simp] theorem claimApplied_outer (w u g : Nat) (s : State) : (claimApplied w u g s).outer = s.outer := by
  unfold claimApplied; (try dsimp only); (repeat' split) <;> first | (simp; done) | rfl

@[simp] theorem indexStarted_outer (s : State) : (indexStarted s).outer = s.outer := by
  unfold indexStarted; (try dsimp only); (repeat' split) <;> first | (simp; done) | rfl

@[simp] theorem indexEnded_outer (shift : Bool) (s : State) : (indexEnded shift s).outer = s.outer := by
  unfold indexEnded; (try dsimp only); (repeat' split) <;> first | (simp; done) | rfl

@[simp] theorem retarget_outer (m : MagName) (s : State) : (retarget m s).outer = s.outer := by
  unfold retarget; (try dsimp only); (repeat' split) <;> first | (simp; done) | rfl

@[simp] theorem reseek_outer (m : MagName) (s : State) : (reseek m s).outer = s.outer := by
  unfold reseek; (try dsimp only); (repeat' split) <;> first | (simp; done) | rfl

@[simp] theorem loadedAnswered_outer (m : Nat) (ev : Nat) (s : State) : (loadedAnswered m ev s).outer = s.outer := by
  unfold loadedAnswered; (try dsimp only); (repeat' split) <;> first | (simp; done) | rfl

@[simp] theorem pushersAnswered_outer (applied : Bool) (n : Note) (s : State) : (pushersAnswered applied n s).outer = s.outer := by
  unfold pushersAnswered; (try dsimp only); (repeat' split) <;> first | (simp; done) | rfl

@[simp] theorem pullApplied_outer (p : Plan) (own : Bool) (sender index : Nat) (n : PullNote) (s : State) : (pullApplied p own sender index n s).outer = s.outer := by
  unfold pullApplied; (try dsimp only); (repeat' split) <;> first | (simp; done) | rfl

@[simp] theorem stripGone_outer (id : Nat) (s : State) : (stripGone id s).outer = s.outer := by
  unfold stripGone; (try dsimp only); (repeat' split) <;> first | (simp; done) | rfl

@[simp] theorem tellApplied_outer (p : Plan) (own : Bool) (sender : Nat) (t t' : Table) (n : Note) (s : State) : (tellApplied p own sender t t' n s).outer = s.outer := by
  unfold tellApplied; (try dsimp only); (repeat' split) <;> first | (simp; done) | rfl

@[simp] theorem tellRefused_outer (n : Note) (s : State) : (tellRefused n s).outer = s.outer := by
  unfold tellRefused; (try dsimp only); (repeat' split) <;> first | (simp; done) | rfl

@[simp] theorem tellUnread_outer (n : Note) (s : State) : (tellUnread n s).outer = s.outer := by
  unfold tellUnread; (try dsimp only); (repeat' split) <;> first | (simp; done) | rfl

@[simp] theorem putTable_outer (t : Table) (s : State) : (putTable t s).outer = s.outer := by
  unfold putTable; (try dsimp only); (repeat' split) <;> first | (simp; done) | rfl

@[simp] theorem noteApplied_outer (p : Plan) (c : NoteCtx) (t t' : Table) (n : Note) (s : State) : (noteApplied p c t t' n s).outer = s.outer := by
  unfold noteApplied; (try dsimp only); (repeat' split) <;> first | (simp; done) | rfl

@[simp] theorem noteRefused_outer (c : NoteCtx) (n : Note) (s : State) : (noteRefused c n s).outer = s.outer := by
  unfold noteRefused; (try dsimp only); (repeat' split) <;> first | (simp; done) | rfl

@[simp] theorem copierNote_outer (p : Plan) (c : NoteCtx) (t : Table) (n : Note) (s : State) : (copierNote p c t n s).outer = s.outer := by
  unfold copierNote; (try dsimp only); (repeat' split) <;> first | (simp; done) | rfl

@[simp] theorem handNote_outer (f : Frame) (n : Note) (s : State) : (handNote f n s).outer = s.outer := by
  unfold handNote; (try dsimp only); (repeat' split) <;> first | (simp; done) | rfl

@[simp] theorem enterResync_outer (p : Plan) (s : State) : (enterResync p s).outer = s.outer := by
  unfold enterResync; (try dsimp only); (repeat' split) <;> first | (simp; done) | rfl

@[simp] theorem tableCompleted_outer (s : State) : (tableCompleted s).outer = s.outer := by
  unfold tableCompleted; (try dsimp only); (repeat' split) <;> first | (simp; done) | rfl

@[simp] theorem leaveResync_outer (s : State) : (leaveResync s).outer = s.outer := by
  unfold leaveResync; (try dsimp only); (repeat' split) <;> first | (simp; done) | rfl

@[simp] theorem checkClaims_outer (w lo : Nat) (s : State) : (checkClaims w lo s).outer = s.outer := by
  unfold checkClaims; (try dsimp only); (repeat' split) <;> first | (simp; done) | rfl

@[simp] theorem retargetCopied_outer (n : Nat) (s : State) : (retargetCopied n s).outer = s.outer := by
  unfold retargetCopied; (try dsimp only); (repeat' split) <;> first | (simp; done) | rfl

@[simp] theorem takeSection_outer (p : Plan) (n : Nat) (body : List Byte) (s : State) : (takeSection p n body s).outer = s.outer := by
  unfold takeSection; (try dsimp only); (repeat' split) <;> first | (simp; done) | rfl

@[simp] theorem handHeader_outer (f : Frame) (s : State) : (handHeader f s).outer = s.outer := by
  unfold handHeader; (try dsimp only); (repeat' split) <;> first | (simp; done) | rfl

@[simp] theorem unreadableHeard_outer (s : State) : (unreadableHeard s).outer = s.outer := by
  unfold unreadableHeard; (try dsimp only); (repeat' split) <;> first | (simp; done) | rfl

@[simp] theorem absence_outer (k : Nat) (s : State) : (absence k s).outer = s.outer := by
  unfold absence; (try dsimp only); (repeat' split) <;> first | (simp; done) | rfl

@[simp] theorem resyncExpired_outer (s : State) : (resyncExpired s).outer = s.outer := by
  unfold resyncExpired; (try dsimp only); (repeat' split) <;> first | (simp; done) | rfl

@[simp] theorem discardTable_outer (s : State) : (discardTable s).outer = s.outer := by
  unfold discardTable; (try dsimp only); (repeat' split) <;> first | (simp; done) | rfl

@[simp] theorem beginGather_outer (s : State) : (beginGather s).outer = s.outer := by
  unfold beginGather; (try dsimp only); (repeat' split) <;> first | (simp; done) | rfl

@[simp] theorem startFresh_outer (s : State) : (startFresh s).outer = s.outer := by
  unfold startFresh; (try dsimp only); (repeat' split) <;> first | (simp; done) | rfl

@[simp] theorem becomeActive_outer (s : State) : (becomeActive s).outer = s.outer := by
  unfold becomeActive; (try dsimp only); (repeat' split) <;> first | (simp; done) | rfl

@[simp] theorem checkJoin_outer (s : State) : (checkJoin s).outer = s.outer := by
  unfold checkJoin; (try dsimp only); (repeat' split) <;> first | (simp; done) | rfl

@[simp] theorem countJoin_outer (gath : Bool) (s : State) : (countJoin gath s).outer = s.outer := by
  unfold countJoin; (try dsimp only); (repeat' split) <;> first | (simp; done) | rfl

@[simp] theorem watches_outer (sender due res : Bool) (s : State) : (watches sender due res s).outer = s.outer := by
  unfold watches; (try dsimp only); (repeat' split) <;> first | (simp; done) | rfl

@[simp] theorem clearStaging_outer (s : State) : (clearStaging s).outer = s.outer := by
  unfold clearStaging; (try dsimp only); (repeat' split) <;> first | (simp; done) | rfl

@[simp] theorem discardPlan_outer (s : State) : (discardPlan s).outer = s.outer := by
  unfold discardPlan; (try dsimp only); (repeat' split) <;> first | (simp; done) | rfl

@[simp] theorem holdPlan_outer (p : Plan) (s : State) : (holdPlan p s).outer = s.outer := by
  unfold holdPlan; (try dsimp only); (repeat' split) <;> first | (simp; done) | rfl

@[simp] theorem refusePlan_outer (s : State) : (refusePlan s).outer = s.outer := by
  unfold refusePlan; (try dsimp only); (repeat' split) <;> first | (simp; done) | rfl

@[simp] theorem tryComplete_outer (s : State) : (tryComplete s).outer = s.outer := by
  unfold tryComplete; (try dsimp only); (repeat' split) <;> first | (simp; done) | rfl

@[simp] theorem stagePlan_outer (id off : Nat) (bs : List Byte) (s : State) : (stagePlan id off bs s).outer = s.outer := by
  unfold stagePlan; (try dsimp only); (repeat' split) <;> first | (simp; done) | rfl

@[simp] theorem countIgnored_outer (s : State) : (countIgnored s).outer = s.outer := by
  unfold countIgnored; (try dsimp only); (repeat' split) <;> first | (simp; done) | rfl

@[simp] theorem handlePlan_outer (id off : Nat) (bs : List Byte) (s : State) : (handlePlan id off bs s).outer = s.outer := by
  unfold handlePlan; (try dsimp only); (repeat' split) <;> first | (simp; done) | rfl

@[simp] theorem compareTarget_outer (s : State) : (compareTarget s).outer = s.outer := by
  unfold compareTarget; (try dsimp only); (repeat' split) <;> first | (simp; done) | rfl

@[simp] theorem endAbsent_outer (s : State) : (endAbsent s).outer = s.outer := by
  unfold endAbsent; (try dsimp only); (repeat' split) <;> first | (simp; done) | rfl

@[simp] theorem endResync_outer (s : State) : (endResync s).outer = s.outer := by
  unfold endResync; (try dsimp only); (repeat' split) <;> first | (simp; done) | rfl

@[simp] theorem enterListen_outer (silenced : Bool) (s : State) : (enterListen silenced s).outer = s.outer := by
  unfold enterListen; (try dsimp only); (repeat' split) <;> first | (simp; done) | rfl

@[simp] theorem leaveListen_outer (s : State) : (leaveListen s).outer = s.outer := by
  unfold leaveListen; (try dsimp only); (repeat' split) <;> first | (simp; done) | rfl

@[simp] theorem loseFeed_outer (s : State) : (loseFeed s).outer = s.outer := by
  unfold loseFeed; (try dsimp only); (repeat' split) <;> first | (simp; done) | rfl

@[simp] theorem loseUnload_outer (s : State) : (loseUnload s).outer = s.outer := by
  unfold loseUnload; (try dsimp only); (repeat' split) <;> first | (simp; done) | rfl

@[simp] theorem loseDuties_outer (s : State) : (loseDuties s).outer = s.outer := by
  unfold loseDuties; (try dsimp only); (repeat' split) <;> first | (simp; done) | rfl

@[simp] theorem dropToJoining_outer (s : State) : (dropToJoining s).outer = s.outer := by
  unfold dropToJoining; (try dsimp only); (repeat' split) <;> first | (simp; done) | rfl

@[simp] theorem planConflict_outer (f : Frame) (s : State) : (planConflict f s).outer = s.outer := by
  unfold planConflict; (try dsimp only); (repeat' split) <;> first | (simp; done) | rfl

@[simp] theorem beginRestartCheck_outer (s : State) : (beginRestartCheck s).outer = s.outer := by
  unfold beginRestartCheck; simp

@[simp] theorem restProgress_outer (s : State) : (restProgress s).outer = s.outer := by
  unfold restProgress; (try dsimp only); (repeat' split) <;> first | (simp; done) | rfl

@[simp] theorem beginRestart_outer (s : State) : (beginRestart s).outer = s.outer := by
  unfold beginRestart; (try dsimp only); (repeat' split) <;> first | (simp; done) | rfl

@[simp] theorem restandAlarms_outer (s : State) : (restandAlarms s).outer = s.outer := by
  unfold restandAlarms; (try dsimp only); (repeat' split) <;> first | (simp; done) | rfl

@[simp] theorem endSelfCheck_outer (failed : List CheckItem) (s : State) : (endSelfCheck failed s).outer = s.outer := by
  unfold endSelfCheck; (try dsimp only); (repeat' split) <;> first | (simp; done) | rfl

@[simp] theorem dropBuilt_outer (s : State) (n : Note) : (dropBuilt s n).outer = s.outer := by
  unfold dropBuilt; (try dsimp only); (repeat' split) <;> first | (simp; done) | rfl

@[simp] theorem buildFrame_outer (s : State) : (buildFrame s).outer = s.outer := by
  unfold buildFrame; (try dsimp only); (repeat' split) <;> first | (simp; done) | rfl

@[simp] theorem sendCold_outer (s : State) : (sendCold s).outer = s.outer := by
  unfold sendCold; (try dsimp only); (repeat' split) <;> first | (simp; done) | rfl

@[simp] theorem judgeAbsent_outer (s : State) : (judgeAbsent s).outer = s.outer := by
  unfold judgeAbsent; (try dsimp only); (repeat' split) <;> first | (simp; done) | rfl

@[simp] theorem countSilence_outer (k : Nat) (s : State) : (countSilence k s).outer = s.outer := by
  unfold countSilence; (try dsimp only); (repeat' split) <;> first | (simp; done) | rfl

@[simp] theorem failTransmit_outer (s : State) : (failTransmit s).outer = s.outer := by
  unfold failTransmit; (try dsimp only); (repeat' split) <;> first | (simp; done) | rfl

@[simp] theorem passOwn_outer (k : Nat) (round : Half) (s : State) : (passOwn k round s).outer = s.outer := by
  unfold passOwn; (try dsimp only); (repeat' split) <;> first | (simp; done) | rfl

@[simp] theorem voteUnseen_outer (k : Nat) (s : State) : (voteUnseen k s).outer = s.outer := by
  unfold voteUnseen; (try dsimp only); (repeat' split) <;> first | (simp; done) | rfl

@[simp] theorem endSlot_outer (k : Nat) (round : Half) (gath res : Bool) (s : State) : (endSlot k round gath res s).outer = s.outer := by
  unfold endSlot; (try dsimp only); (repeat' split) <;> first | (simp; done) | rfl

@[simp] theorem endSilent_outer (s : State) : (endSilent s).outer = s.outer := by
  unfold endSilent; (try dsimp only); (repeat' split) <;> first | (simp; done) | rfl

@[simp] theorem silentSlot_outer (s : State) : (silentSlot s).outer = s.outer := by
  unfold silentSlot; (try dsimp only); (repeat' split) <;> first | (simp; done) | rfl

@[simp] theorem silentSlots_outer (n : Nat) (s : State) : (silentSlots n s).outer = s.outer := by
  induction n generalizing s with
  | zero => rfl
  | succ n ih => simp [silentSlots, ih]

@[simp] theorem dropVoteRec_outer (passes : Bool) (s : State) : (dropVoteRec passes s).outer = s.outer := by
  unfold dropVoteRec; (try dsimp only); (repeat' split) <;> first | (simp; done) | rfl

@[simp] theorem correctSlot_outer (f : Frame) (s : State) : (correctSlot f s).outer = s.outer := by
  unfold correctSlot; (try dsimp only); (repeat' split) <;> first | (simp; done) | rfl

@[simp] theorem hearRoster_outer (f : Frame) (s : State) : (hearRoster f s).outer = s.outer := by
  unfold hearRoster; (try dsimp only); (repeat' split) <;> first | (simp; done) | rfl

@[simp] theorem handAddressed_outer (from_ : Nat) (s : State) (n : Note) : (handAddressed from_ s n).outer = s.outer := by
  unfold handAddressed; (try dsimp only); (repeat' split) <;> first | (simp; done) | rfl

@[simp] theorem handPlan_outer (s : State) (n : Note) : (handPlan s n).outer = s.outer := by
  unfold handPlan; (try dsimp only); (repeat' split) <;> first | (simp; done) | rfl

@[simp] theorem handPlans_outer (f : Frame) (s : State) : (handPlans f s).outer = s.outer := by
  unfold handPlans; (try dsimp only); (repeat' split) <;> first | (simp; done) | rfl

@[simp] theorem handleFrame_outer (f : Frame) (s : State) : (handleFrame f s).outer = s.outer := by
  unfold handleFrame; (try dsimp only); (repeat' split) <;> first | (simp; done) | rfl

@[simp] theorem afterFrame_outer (f : Frame) (own gath res : Bool) (s : State) : (afterFrame f own gath res s).outer = s.outer := by
  unfold afterFrame; (try dsimp only); (repeat' split) <;> first | (simp; done) | rfl

@[simp] theorem hearDuplicate_outer (s : State) : (hearDuplicate s).outer = s.outer := by
  unfold hearDuplicate; (try dsimp only); (repeat' split) <;> first | (simp; done) | rfl

@[simp] theorem silencedFrame_outer (f : Frame) (s : State) : (silencedFrame f s).outer = s.outer := by
  unfold silencedFrame; dsimp only; rw [foldl_outer]
  · split <;> simp
  · intro s n; split <;> simp

@[simp] theorem readableFrame_outer (f : Frame) (own : Bool) (s : State) : (readableFrame f own s).outer = s.outer := by
  unfold readableFrame; (try dsimp only); (repeat' split) <;> first | (simp; done) | rfl

@[simp] theorem unreadableFrame_outer (mine : Bool) (s : State) : (unreadableFrame mine s).outer = s.outer := by
  unfold unreadableFrame; (try dsimp only); (repeat' split) <;> first | (simp; done) | rfl

@[simp] theorem idleLine_outer (s : State) : (idleLine s).outer = s.outer := by
  unfold idleLine; (try dsimp only); (repeat' split) <;> first | (simp; done) | rfl

@[simp] theorem redraw_outer (s : State) : (redraw s).outer = s.outer := by
  unfold redraw; (try dsimp only); (repeat' split) <;> first | (simp; done) | rfl

@[simp] theorem moveCursor_outer (d : Arrow) (s : State) : (moveCursor d s).outer = s.outer := by
  unfold moveCursor; (try dsimp only); (repeat' split) <;> first | (simp; done) | rfl

@[simp] theorem recoverIndex_outer (s : State) : (recoverIndex s).outer = s.outer := by
  unfold recoverIndex; (try dsimp only); (repeat' split) <;> first | (simp; done) | rfl

@[simp] theorem handClear_outer (s : State) : (handClear s).outer = s.outer := by
  unfold handClear; (try dsimp only); (repeat' split) <;> first | (simp; done) | rfl

@[simp] theorem placeHoldOff_outer (s : State) (c : Nat) : (placeHoldOff s c).outer = s.outer := by
  unfold placeHoldOff; (try dsimp only); (repeat' split) <;> first | (simp; done) | rfl

@[simp] theorem handHoldRel_outer (s : State) : (handHoldRel s).outer = s.outer := by
  unfold handHoldRel; (try dsimp only); (repeat' split) <;> first | (simp; done) | rfl

@[simp] theorem handSkip_outer (s : State) : (handSkip s).outer = s.outer := by
  unfold handSkip; (try dsimp only); (repeat' split) <;> first | (simp; done) | rfl

@[simp] theorem sendRow_outer (s : State) : (sendRow s).outer = s.outer := by
  unfold sendRow; (try dsimp only); (repeat' split) <;> first | (simp; done) | rfl

@[simp] theorem rowSent_outer (s : State) : (rowSent s).outer = s.outer := by
  unfold rowSent; (try dsimp only); (repeat' split) <;> first | (simp; done) | rfl

@[simp] theorem afterSlot_outer (s : State) : (afterSlot s).outer = s.outer := by
  unfold afterSlot; (try dsimp only); (repeat' split) <;> first | (simp; done) | rfl

@[simp] theorem quietExpired_outer (s : State) : (quietExpired s).outer = s.outer := by
  unfold quietExpired; (try dsimp only); (repeat' split) <;> first | (simp; done) | rfl

@[simp] theorem unreadableEnd_outer (s : State) : (unreadableEnd s).outer = s.outer := by
  unfold unreadableEnd; (try dsimp only); (repeat' split) <;> first | (simp; done) | rfl

@[simp] theorem frameEnd_outer (chars : List Byte) (s : State) : (frameEnd chars s).outer = s.outer := by
  unfold frameEnd; (try dsimp only); (repeat' split) <;> first | (simp; done) | rfl

@[simp] theorem badFrameEnd_outer (s : State) : (badFrameEnd s).outer = s.outer := by
  unfold badFrameEnd; (try dsimp only); (repeat' split) <;> first | (simp; done) | rfl

@[simp] theorem slotEnds_outer (lv : Levels) (s : State) : (slotEnds lv s).outer = s.outer := by
  unfold slotEnds; (try dsimp only); (repeat' split) <;> first | (simp; done) | rfl

@[simp] theorem unsend_outer (s : State) : (unsend s).outer = s.outer := by
  unfold unsend; (try dsimp only); (repeat' split) <;> first | (simp; done) | rfl

@[simp] theorem missDeadline_outer (s : State) : (missDeadline s).outer = s.outer := by
  unfold missDeadline; (try dsimp only); (repeat' split) <;> first | (simp; done) | rfl

@[simp] theorem coldMismatch_outer (s : State) : (coldMismatch s).outer = s.outer := by
  unfold coldMismatch; (try dsimp only); (repeat' split) <;> first | (simp; done) | rfl

@[simp] theorem mismatch_outer (s : State) : (mismatch s).outer = s.outer := by
  unfold mismatch; (try dsimp only); (repeat' split) <;> first | (simp; done) | rfl

@[simp] theorem taktExpired_outer (s : State) : (taktExpired s).outer = s.outer := by
  unfold taktExpired; (try dsimp only); (repeat' split) <;> first | (simp; done) | rfl

@[simp] theorem clampWaitExpired_outer (s : State) : (clampWaitExpired s).outer = s.outer := by
  unfold clampWaitExpired; (try dsimp only); (repeat' split) <;> first | (simp; done) | rfl

@[simp] theorem headAlerted_outer (a : AlertKind) (s : State) : (headAlerted a s).outer = s.outer := by
  unfold headAlerted; (try dsimp only); (repeat' split) <;> first | (simp; done) | rfl

@[simp] theorem takeByte_outer (is : Byte → Bool) (act : Byte → Ocu → Ocu) (s : State) : (takeByte is act s).outer = s.outer := by
  unfold takeByte; (try dsimp only); (repeat' split) <;> first | (simp; done) | rfl

@[simp] theorem clampOpened_outer (s : State) : (clampOpened s).outer = s.outer := by
  unfold clampOpened; (try dsimp only); (repeat' split) <;> first | (simp; done) | rfl

@[simp] theorem openLimit_outer (s : State) : (openLimit s).outer = s.outer := by
  unfold openLimit; (try dsimp only); (repeat' split) <;> first | (simp; done) | rfl

@[simp] theorem beamDone_outer (s : State) : (beamDone s).outer = s.outer := by
  unfold beamDone; (try dsimp only); (repeat' split) <;> first | (simp; done) | rfl

@[simp] theorem removeMagazine_outer (m : MagName) (s : State) : (removeMagazine m s).outer = s.outer := by
  unfold removeMagazine; (try dsimp only); (repeat' split) <;> first | (simp; done) | rfl

@[simp] theorem startPush_outer (p : PusherName) (s : State) : (startPush p s).outer = s.outer := by
  unfold startPush; (try dsimp only); (repeat' split) <;> first | (simp; done) | rfl

@[simp] theorem pushExpired_outer (p : PusherName) (s : State) : (pushExpired p s).outer = s.outer := by
  unfold pushExpired; (try dsimp only); (repeat' split) <;> first | (simp; done) | rfl

@[simp] theorem clampClosed_outer (s : State) : (clampClosed s).outer = s.outer := by
  unfold clampClosed; (try dsimp only); (repeat' split) <;> first | (simp; done) | rfl

@[simp] theorem beamHomed_outer (s : State) : (beamHomed s).outer = s.outer := by
  unfold beamHomed; (try dsimp only); (repeat' split) <;> first | (simp; done) | rfl

@[simp] theorem insertMagazine_outer (m : MagName) (s : State) : (insertMagazine m s).outer = s.outer := by
  unfold insertMagazine; (try dsimp only); (repeat' split) <;> first | (simp; done) | rfl

@[simp] theorem viewUp_outer (s : State) : (viewUp s).outer = s.outer := by
  unfold viewUp; (try dsimp only); (repeat' split) <;> first | (simp; done) | rfl

@[simp] theorem viewDown_outer (s : State) : (viewDown s).outer = s.outer := by
  unfold viewDown; (try dsimp only); (repeat' split) <;> first | (simp; done) | rfl

end Sys2Proof.Machine
end

