-- ==== Sys2Proof/Laws/Drive.lean ====
section
/-! SUPPORT. The sequencer comes to an end of its moves, and every command ends in a settled state: the lemmas by which a
proof passes over `drive`, `settle`, `restProgress`, `judgeMags` and `conclude`. -/

set_option linter.all false

namespace Sys2Proof.Machine

/-- Moves the BSQ can still make at most; with a command outstanding, only the one to IDLE. -/
def Bsq.left (b : Bsq) : Nat :=
  if b.out.isSome then (if b.st = .running ∧ b.work = [] ∧ b.stop = false then 1 else 0)
  else (if b.stop then 1 else 0) + 2 * b.work.length + (if b.cursor.isNone && !b.work.isEmpty then 1 else 0) +
    (match b.st with | .running => 2 | .idle => 1 | .finishing => 1 | _ => 0)


@[simp] theorem place_bsq (p n) (s : State) : (place p n s).bsq = s.bsq := rfl

theorem left_sendHead (c) (s : State) (h : s.bsq.work ≠ [] ∨ s.bsq.st ≠ .running) : (sendHead c s).bsq.left = 0 := by
  rcases h with h | h <;> simp [sendHead, Bsq.left, h]

theorem left_idleWhenEmpty (b : Bsq) (ho : b.out.isSome = true) :
    b.idleWhenEmpty = b ∨ b.idleWhenEmpty.left < b.left := by
  unfold Bsq.idleWhenEmpty
  split
  · rename_i h; right; simp [Bsq.left, ho, h]
  · exact .inl rfl

theorem left_leave (b : Bsq) (h : b.work ≠ []) (ho : b.out = none) : b.leave.left < b.left := by
  obtain ⟨e, r, hw⟩ := List.exists_cons_of_ne_nil h
  simp only [Bsq.leave, Bsq.left, ho, hw, Option.isSome_none, List.drop_succ_cons, List.drop_zero, List.length_cons, Option.isNone_none, Bool.false_eq_true, if_false]
  cases r <;> simp <;> split <;> omega

theorem left_reportEnd (n) (s : State) (h : s.bsq.work ≠ []) (ho : s.bsq.out = none) :
    (reportEnd n s).bsq.left < s.bsq.left := left_leave _ h ho

theorem left_workGroup (e c) (s : State) (h : s.bsq.work ≠ []) (ho : s.bsq.out = none) :
    workGroup e c s = s ∨ (workGroup e c s).bsq.left < s.bsq.left := by
  have hp : 0 < s.bsq.left := by
    obtain ⟨e, r, hw⟩ := List.exists_cons_of_ne_nil h
    simp only [Bsq.left, ho, hw]; simp
  unfold workGroup
  repeat' split
  all_goals first
    | exact .inl rfl
    | exact .inr (left_reportEnd _ _ h ho)
    | (right; rw [left_sendHead _ _ (.inl (by simpa [Bsq.onWire] using h))]; exact hp)

theorem left_workTest (e c) (s : State) (h : s.bsq.work ≠ []) (ho : s.bsq.out = none) :
    workTest e c s = s ∨ (workTest e c s).bsq.left < s.bsq.left := by
  have hp : 0 < s.bsq.left := by
    obtain ⟨e, r, hw⟩ := List.exists_cons_of_ne_nil h
    simp only [Bsq.left, ho, hw]; simp
  unfold workTest
  repeat' split
  all_goals first
    | exact .inl rfl
    | exact .inr (left_reportEnd _ _ h ho)
    | (right; rw [left_sendHead _ _ (.inl (by simpa [Bsq.onWire] using h))]; exact hp)

theorem left_startClaim (e) (s : State) (h : s.bsq.work ≠ []) (ho : s.bsq.out = none) (hc : s.bsq.cursor = none) :
    (startClaim e s).bsq.left < s.bsq.left := by
  obtain ⟨e, r, hw⟩ := List.exists_cons_of_ne_nil h
  simp [startClaim, Bsq.left, ho, hc, hw]

theorem left_workHead (e) (s : State) (h : s.bsq.work ≠ []) (ho : s.bsq.out = none) :
    workHead e s = s ∨ (workHead e s).bsq.left < s.bsq.left := by
  unfold workHead
  split
  · exact .inr (left_leave _ h ho)
  · split
    · rename_i hc
      split
      · exact .inr (left_reportEnd _ _ h ho)
      · exact .inr (left_startClaim _ _ h ho hc)
    · split
      · exact left_workTest _ _ _ h ho
      · exact left_workGroup _ _ _ h ho

theorem endStopped_bsq (s : State) (hs : s.bsq.stop = true) :
    (endStopped s).bsq = { s.bsq with work := [], cursor := none } := by
  unfold endStopped; rw [if_pos hs]; rfl

theorem endStopped_lnk' (s : State) : (endStopped s).lnk = s.lnk := by unfold endStopped; split <;> rfl
theorem endStopped_su' (s : State) : (endStopped s).su = s.su := by unfold endStopped; split <;> rfl

theorem left_stop (s : State) (ho : s.bsq.out = none) (hs : s.bsq.stop = true) :
    (parkStopped (endStopped s).stopEnded).bsq.left < s.bsq.left := by
  have hb : (endStopped s).stopEnded.bsq =
      { s.bsq with work := [], cursor := none, stop := false, st := if s.bsq.st = .running then .idle else s.bsq.st } := by
    simp only [State.stopEnded, endStopped_bsq s hs]
  have hp : 0 < s.bsq.left := by simp [Bsq.left, ho, hs]
  unfold parkStopped
  split
  · rename_i h; rw [left_sendHead _ _ (.inr (by rw [h.1]; decide))]; exact hp
  · rw [hb]
    simp only [Bsq.left, ho, hs]
    cases s.bsq.st <;> simp <;> omega

theorem left_driveStep (s : State) : driveStep s = s ∨ (driveStep s).bsq.left < s.bsq.left := by
  unfold driveStep
  split
  · exact .inl rfl
  split
  · rename_i ho
    rcases left_idleWhenEmpty s.bsq ho with h | h
    · left; rw [h]
    · exact .inr h
  · rename_i h
    have ho : s.bsq.out = none := by simpa using h
    split
    · rename_i hs
      right
      exact left_stop s ho hs
    · split
      · rename_i hr
        split
        · rename_i hw; right; simp [Bsq.left, ho, hw, hr]
        · rename_i e r hw; exact left_workHead _ _ (by simp [hw]) ho
      · rename_i hf
        split
        · rename_i hw
          split
          · right; simp [Bsq.left, ho, hw, hf]
          · split
            · right; rw [left_sendHead _ _ (.inr (by simp [hf]))]; simp [Bsq.left, ho, hf]
            · exact .inl rfl
        · rename_i e r hw; exact left_workHead _ _ (by simp [hw]) ho
      · rename_i hi
        split
        · right; rw [left_sendHead _ _ (.inr (by simp [hi]))]; simp [Bsq.left, ho, hi]
        · exact .inl rfl
      · exact .inl rfl

theorem driveN_fixed (n) (s : State) (h : driveStep s = s) : driveN n s = s := by
  induction n with
  | zero => rfl
  | succ n ih => rw [driveN, h, ih]

theorem driveStep_driveN (n) (s : State) (h : s.bsq.left ≤ n) : driveStep (driveN n s) = driveN n s := by
  induction n generalizing s with
  | zero =>
    rcases left_driveStep s with h' | h'
    · exact h'
    · omega
  | succ n ih =>
    rcases left_driveStep s with h' | h'
    · rw [driveN_fixed _ _ h', h']
    · exact ih _ (by omega)

theorem left_le (b : Bsq) : b.left ≤ 2 * b.work.length + 4 := by
  unfold Bsq.left
  split
  · split <;> omega
  · cases hw : b.work <;> cases b.st <;> simp <;> (repeat' split) <;> omega

/-- The sequencer has no move left. -/
theorem driveStep_drive (s : State) : driveStep (drive s) = drive s := driveStep_driveN _ _ (left_le _)

theorem drive_fixed (s : State) (h : driveStep s = s) : drive s = s := driveN_fixed _ _ h

/-! ## The parts that end every command -/

theorem driveStep_rest (s : State) (h : s.su.run ≠ .running) : driveStep s = s := by
  unfold driveStep; simp [h]

theorem drive_rest (s : State) (h : s.su.run ≠ .running) : drive s = s := drive_fixed s (driveStep_rest s h)

theorem restProgress_running (s : State) (h : s.su.run ≠ .resting) : restProgress s = s := by
  unfold restProgress; simp [h]

end Sys2Proof.Machine
end

