-- ==== Sys2Proof/Laws/Settle.lean ====
section
/-! SUPPORT. What ends every command leaves the block settled: nothing it does reads the screen or the counter for free
values, and each of its parts has nothing left to do after it. -/

set_option linter.all false
namespace Sys2Proof.Machine

/-- The state seen with another console and counter. -/
def State.shown (s : State) (o : Ocu) (n : Nat) : State := { s with ocu := o, free := n }

theorem workGroup_shown (e c) (s : State) (o n) : workGroup e c (s.shown o n) = (workGroup e c s).shown o n := by
  unfold workGroup
  rw [show (s.shown o n).su = s.su from rfl, show (s.shown o n).headFree = s.headFree from rfl, show (s.shown o n).bsq = s.bsq from rfl]
  (repeat' split) <;> rfl

theorem workTest_shown (e c) (s : State) (o n) : workTest e c (s.shown o n) = (workTest e c s).shown o n := by
  unfold workTest
  rw [show (s.shown o n).su = s.su from rfl, show (s.shown o n).headFree = s.headFree from rfl,
    show (s.shown o n).pullsLeft c.base = s.pullsLeft c.base from rfl, show (s.shown o n).lnk = s.lnk from rfl]
  (repeat' split) <;> rfl

theorem workHead_shown (e) (s : State) (o n) : workHead e (s.shown o n) = (workHead e s).shown o n := by
  unfold workHead
  rw [show (s.shown o n).bsq = s.bsq from rfl]
  simp only [workTest_shown, workGroup_shown]
  (repeat' split) <;> rfl

theorem endStopped_shown (s : State) (o n) : endStopped (s.shown o n) = (endStopped s).shown o n := by
  unfold endStopped
  rw [show (s.shown o n).bsq = s.bsq from rfl]
  split <;> rfl

theorem parkStopped_shown (s : State) (o n) : parkStopped (s.shown o n) = (parkStopped s).shown o n := by
  unfold parkStopped
  rw [show (s.shown o n).bsq = s.bsq from rfl, show (s.shown o n).headFree = s.headFree from rfl]
  split <;> rfl

theorem stopEnded_shown (s : State) (o n) : (s.shown o n).stopEnded = s.stopEnded.shown o n := rfl

theorem driveStep_shown (s : State) (o n) : driveStep (s.shown o n) = (driveStep s).shown o n := by
  unfold driveStep
  rw [show (s.shown o n).bsq = s.bsq from rfl, show (s.shown o n).su = s.su from rfl, show (s.shown o n).headFree = s.headFree from rfl,
   show (s.shown o n).mayPark = s.mayPark from rfl]
  simp only [workHead_shown, endStopped_shown, stopEnded_shown, parkStopped_shown]
  (repeat' split) <;> rfl

theorem driveStep_fixed_shown (s : State) (o n) (h : driveStep s = s) : driveStep (s.shown o n) = s.shown o n := by
  rw [driveStep_shown, h]

theorem judgeMags_shape (s : State) : ∃ o, judgeMags s = s.shown o s.free := by
  refine ⟨(judgeMags s).ocu, ?_⟩
  unfold judgeMags edgeAlarm raise clearAlarm
  dsimp only
  (repeat' split) <;> rfl

theorem finish_shape (s : State) : ∃ o, finish s = s.shown o (s.free + 1) := ⟨_, rfl⟩

@[simp] theorem restBsq_su (s : State) : (restBsq s).su = s.su := by unfold restBsq; split <;> rfl
@[simp] theorem restBsq_lnk (s : State) : (restBsq s).lnk = s.lnk := by unfold restBsq; split <;> rfl

@[simp] theorem restElev_lnk (m : MagName) (s : State) : (restElev m s).lnk = s.lnk := by
  unfold restElev putElev; dsimp only; (repeat' split) <;> rfl
@[simp] theorem restElevs_lnk (s : State) : (restElevs s).lnk = s.lnk := by simp [restElevs]

/-- Once every block is at rest the rest step of a restart is over. -/
@[simp] theorem beginRestartCheck_run (s : State) : (beginRestartCheck s).su.run = .restartCheck := rfl
@[simp] theorem beginRestartCheck_lnk (s : State) : (beginRestartCheck s).lnk = s.lnk := by
  unfold beginRestartCheck; exact restElevs_lnk s

theorem driveStep_restProgress (s : State) (h : driveStep s = s) : driveStep (restProgress s) = restProgress s := by
  by_cases hr : s.su.run = .resting
  · apply driveStep_rest
    unfold restProgress
    simp only [hr, if_true]
    split <;> simp [hr]
  · rw [restProgress_running s hr, h]

@[simp] theorem restProgress_lnk (s : State) : (restProgress s).lnk = s.lnk := by
  unfold restProgress; dsimp only; (repeat' split) <;> simp

/-- What step 1 of a restart does once: its self-check begins, or PARK is sent, or it waits. -/
theorem restProgress_cases (s : State) (hr : s.su.run = .resting) :
    ((restBsq s).atRest = true ∧ restProgress s = beginRestartCheck (restBsq s)) ∨
    ((restBsq s).atRest = false ∧ restProgress s = restBsq s) := by
  unfold restProgress
  rw [if_pos hr]
  cases h : (restBsq s).atRest
  · exact .inr ⟨rfl, if_neg (by simp [h])⟩
  · exact .inl ⟨rfl, if_pos h⟩

theorem restBsq_idem (s : State) : restBsq (restBsq s) = restBsq s := by
  by_cases h : (s.su.run == .resting && s.bsq.out.isNone && !s.bsq.stopped && !s.bsq.restPark) = true
  · have e : restBsq s = sendHead .park { s with bsq := { s.bsq with restPark := true } } := by
      unfold restBsq; rw [if_pos h]
    rw [e]; unfold restBsq; rw [if_neg]; simp [sendHead]
  · have e : restBsq s = s := by unfold restBsq; rw [if_neg h]
    rw [e, e]

theorem restProgress_idem (s : State) : restProgress (restProgress s) = restProgress s := by
  by_cases hr : s.su.run = .resting
  · rcases restProgress_cases s hr with ⟨-, e⟩ | ⟨h, e⟩
    · rw [e]; exact restProgress_running _ (by simp)
    · rw [e]
      rcases restProgress_cases (restBsq s) (by rw [restBsq_su]; exact hr) with ⟨h', -⟩ | ⟨-, e'⟩
      · rw [restBsq_idem, h] at h'; exact absurd h' (by decide)
      · rw [e', restBsq_idem]
  · rw [restProgress_running s hr, restProgress_running s hr]

theorem restBsq_shown (s : State) (o n) : restBsq (s.shown o n) = (restBsq s).shown o n := by
  unfold restBsq
  rw [show (s.shown o n).bsq = s.bsq from rfl, show (s.shown o n).su = s.su from rfl]
  split <;> rfl

/-- A restart with nothing left to do has nothing left to do with another console either. -/
theorem restProgress_fixed_shown (s : State) (o n) (h : restProgress s = s) : restProgress (s.shown o n) = s.shown o n := by
  by_cases hr : s.su.run = .resting
  · rcases restProgress_cases s hr with ⟨-, e⟩ | ⟨hn, e⟩
    · rw [← h, e, beginRestartCheck_run] at hr; exact absurd hr (by decide)
    · have hb : restBsq s = s := e.symm.trans h
      rcases restProgress_cases (s.shown o n) hr with ⟨h', -⟩ | ⟨-, e'⟩
      · rw [restBsq_shown] at h'
        exact absurd (hn.symm.trans h') (by decide)
      · rw [e', restBsq_shown, hb]
  · exact restProgress_running _ hr

@[simp] theorem Ocu.raise_magIn (a i) (o : Ocu) : (o.raise a i).magIn = o.magIn := by
  unfold Ocu.raise; (repeat' split) <;> rfl
@[simp] theorem Ocu.raise_magOut (a i) (o : Ocu) : (o.raise a i).magOut = o.magOut := by
  unfold Ocu.raise; (repeat' split) <;> rfl
@[simp] theorem Ocu.settleAlarm_magIn (a) (o : Ocu) : (o.settleAlarm a).magIn = o.magIn := by
  unfold Ocu.settleAlarm; (repeat' split) <;> rfl
@[simp] theorem Ocu.settleAlarm_magOut (a) (o : Ocu) : (o.settleAlarm a).magOut = o.magOut := by
  unfold Ocu.settleAlarm; (repeat' split) <;> rfl

@[simp] theorem edgeAlarm_magIn (a b c) (s : State) : (edgeAlarm a b c s).ocu.magIn = s.ocu.magIn := by
  unfold edgeAlarm; (repeat' split) <;> simp [raise, clearAlarm]
@[simp] theorem edgeAlarm_magOut (a b c) (s : State) : (edgeAlarm a b c s).ocu.magOut = s.ocu.magOut := by
  unfold edgeAlarm; (repeat' split) <;> simp [raise, clearAlarm]

theorem edgeAlarm_eq (a b) (s : State) : edgeAlarm a b b s = s := by unfold edgeAlarm; cases b <;> simp

@[simp] theorem judgeMags_magIn (s : State) : (judgeMags s).ocu.magIn = s.magInNow := by simp [judgeMags]
@[simp] theorem judgeMags_magOut (s : State) : (judgeMags s).ocu.magOut = s.magOutNow := by simp [judgeMags]

theorem judgeMags_fixed_iff (s : State) :
    judgeMags s = s ↔ s.magInNow = s.ocu.magIn ∧ s.magOutNow = s.ocu.magOut := by
  constructor
  · intro h
    exact ⟨by rw [← judgeMags_magIn, h], by rw [← judgeMags_magOut, h]⟩
  · rintro ⟨h1, h2⟩
    unfold judgeMags
    rw [h1, h2, edgeAlarm_eq, edgeAlarm_eq]

theorem magOutNow_shown (s : State) (o n) : (s.shown o n).magOutNow = s.magOutNow := rfl

theorem magInNow_again (s : State) (o n) (h : o.magIn = s.magInNow) : (s.shown o n).magInNow = s.magInNow := by
  have e : (s.shown o n).magInNow = (match s.table with
    | none => false
    | some t => s.actsFeed && t.inputDry && (o.magIn || (s.tmu.elInput.st != .homing && s.tmu.elInput.st != .scanning))) := rfl
  rw [e, h]; unfold State.magInNow
  cases s.table with
  | none => rfl
  | some t =>
    dsimp only
    cases s.actsFeed <;> cases t.inputDry <;> cases s.ocu.magIn <;> simp

theorem judgeMags_idem (s : State) : judgeMags (judgeMags s) = judgeMags s := by
  rw [judgeMags_fixed_iff]
  have h1 := judgeMags_magIn s
  have h2 := judgeMags_magOut s
  obtain ⟨o, h⟩ := judgeMags_shape s
  rw [h] at h1 h2 ⊢
  have h1' : o.magIn = s.magInNow := h1
  refine ⟨(magInNow_again s o _ h1').trans h1'.symm, (magOutNow_shown s o _).trans ?_⟩
  exact h2.symm

theorem finish_judged (s : State) (h : judgeMags s = s) : judgeMags (finish s) = finish s := by
  rw [judgeMags_fixed_iff] at h ⊢
  exact h

theorem settle_driven (a old) (s : State) : driveStep (settle a old s) = settle a old s := by
  unfold settle; exact driveStep_drive _

/-- Every command that ends in `conclude` leaves nothing to do. -/
theorem conclude_settled (a old) (s : State) (hd : (settle a old s).lnk.drain = (settle a old s).lnk) :
    (conclude a old s).Settled := by
  have h1 : driveStep (restProgress (settle a old s)) = restProgress (settle a old s) :=
    driveStep_restProgress _ (settle_driven a old s)
  unfold conclude
  obtain ⟨o, ho⟩ := judgeMags_shape (restProgress (settle a old s))
  obtain ⟨o', ho'⟩ := finish_shape (judgeMags (restProgress (settle a old s)))
  have key : finish (judgeMags (restProgress (settle a old s))) =
      (restProgress (settle a old s)).shown o' ((restProgress (settle a old s)).free + 1) := by
    rw [ho', ho]; rfl
  refine ⟨?_, ?_, ?_, ?_⟩
  · rw [key]; exact driveStep_fixed_shown _ _ _ h1
  · rw [key]; exact restProgress_fixed_shown _ _ _ (restProgress_idem _)
  · exact finish_judged _ (judgeMags_idem _)
  · rw [key]
    show (restProgress (settle a old s)).lnk.drain = (restProgress (settle a old s)).lnk
    rw [restProgress_lnk]; exact hd

/-! ## Passing over the end of a command -/

/-- A move of the sequencer always changes the sequencer. -/
theorem driveStep_fixed_iff (s : State) : driveStep s = s ↔ (driveStep s).bsq = s.bsq := by
  constructor
  · intro h; rw [h]
  · intro h
    rcases left_driveStep s with h' | h'
    · exact h'
    · rw [h] at h'; exact absurd h' (lt_irrefl _)

/-- Two states that agree on all the sequencer looks at. -/
def SameForDrive (s s' : State) : Prop :=
  s'.bsq = s.bsq ∧ s'.su = s.su ∧ s'.lnk.st = s.lnk.st ∧ s'.lnk.pullWaits = s.lnk.pullWaits ∧ s'.wsc = s.wsc ∧
  s'.ctu = s.ctu ∧ s'.mayPark = s.mayPark

theorem driveStep_bsq_congr (s s' : State) (h : SameForDrive s s') : (driveStep s').bsq = (driveStep s).bsq := by
  obtain ⟨hb, hu, hl, hp, hw, hc, hm⟩ := h
  have hT : s'.table = s.table := by unfold State.table; rw [hl, hc]
  have hf : s'.headFree = s.headFree := by unfold State.headFree; rw [hb, hl]
  have hpr : ∀ w u g, s'.progress w u g = s.progress w u g := by intros; unfold State.progress; rw [hT]
  have hrel : ∀ e c, s'.releaseNote e c = s.releaseNote e c := by
    intro e c; unfold State.releaseNote; cases c <;> simp [hpr]
  have hrep : ∀ n n', (reportEnd n s').bsq = (reportEnd n' s).bsq := by
    intros; show s'.bsq.leave = s.bsq.leave; rw [hb]
  have hsend : ∀ c (b : Bsq), (sendHead c { s' with bsq := b }).bsq = (sendHead c { s with bsq := b }).bsq := by
    intros; simp only [sendHead, hu]
  have hsend' : ∀ c, (sendHead c s').bsq = (sendHead c s).bsq := by
    intros; simp only [sendHead, hu, hb]
  have hstart : ∀ e, (startClaim e s').bsq = (startClaim e s).bsq := by
    intro e; simp only [startClaim, hb, hw, hpr]
  have hwg : ∀ e c, (workGroup e c s').bsq = (workGroup e c s).bsq := by
    intro e c
    unfold workGroup
    rw [hu, hf]
    simp only [hrel, hb]
    (repeat' split) <;> first | exact hb | exact hrep _ _ | rfl | exact hsend _ _ | exact hsend' _
  have hwt : ∀ e c, (workTest e c s').bsq = (workTest e c s).bsq := by
    intro e c
    unfold workTest State.pullsLeft
    rw [hu, hf]
    simp only [hrel, hb, hp]
    (repeat' split) <;> first | exact hb | exact hrep _ _ | rfl | exact hsend _ _ | exact hsend' _
  have hwh : ∀ e, (workHead e s').bsq = (workHead e s).bsq := by
    intro e
    unfold workHead
    rw [hb]
    (repeat' split) <;> first | rfl | exact hrep _ _ | exact hstart _ | exact hwt _ _ | exact hwg _ _
  have hstop : s.bsq.stop = true →
      (parkStopped (endStopped s').stopEnded).bsq = (parkStopped (endStopped s).stopEnded).bsq := by
    intro hs
    have h1 : (endStopped s').stopEnded.bsq = (endStopped s).stopEnded.bsq := by
      simp only [State.stopEnded, endStopped_bsq s hs, endStopped_bsq s' (hb ▸ hs), hb]
    have h2 : (endStopped s').stopEnded.headFree = (endStopped s).stopEnded.headFree := by
      unfold State.headFree
      rw [h1]
      show (_ && (endStopped s').lnk.st != _) = (_ && (endStopped s).lnk.st != _)
      rw [endStopped_lnk', endStopped_lnk', hl]
    have h3 : (endStopped s').stopEnded.su = (endStopped s).stopEnded.su := by
      simp only [State.stopEnded, endStopped_su', hu]
    simp only [parkStopped, h1, h2]
    split
    · simp only [sendHead, h1, h3]
    · exact h1
  unfold driveStep
  rw [hb, hu, hf, hm]
  (repeat' split) <;> first | exact hb | rfl | exact hwh _ | exact hsend' _ | (rename_i hs; exact hstop hs)

theorem driveStep_fixed_congr (s s' : State) (h : SameForDrive s s') (hs : driveStep s = s) : driveStep s' = s' := by
  rw [driveStep_fixed_iff, driveStep_bsq_congr s s' h, hs, h.1]

/-- When nothing is left to do and no selection is due, a command ends with the screen redrawn. -/
theorem conclude_eq_finish (old s : State) (h1 : driveStep s = s) (h2 : s.su.run ≠ .resting) (h3 : judgeMags s = s)
    (h4 : selectionDue old s = false) : conclude false old s = finish s := by
  unfold conclude settle
  simp only [drive_fixed s h1, h4, Bool.false_or, Bool.false_eq_true, if_false]
  rw [restProgress_running s h2, h3]

/-- No selection is due when claims, skip requests, takt timer and sequencer are as they were. -/
theorem selectionDue_same (old s : State) (hw : s.wsc = old.wsc) (hb : s.bsq.st = old.bsq.st) :
    selectionDue old s = false := by
  unfold selectionDue
  rw [hw, hb]
  have h1 : (old.wsc.claims.any fun e => !old.wsc.claims.any fun x => OwnClaim.isTask e.win e.unit e.group x) = false := by
    rw [List.any_eq_false]
    intro e he
    simp only [Bool.not_eq_true', Bool.not_eq_false, List.any_eq_true]
    exact ⟨e, he, by simp [OwnClaim.isTask]⟩
  have h2 : (old.wsc.skips.any fun k => !old.wsc.skips.any fun x => x.win == k.win && x.strip == k.strip && x.unit == k.unit) = false := by
    rw [List.any_eq_false]
    intro e he
    simp only [Bool.not_eq_true', Bool.not_eq_false, List.any_eq_true]
    exact ⟨e, he, by simp⟩
  rw [h1, h2]
  cases old.wsc.takt <;> simp

/-- A command that changes the console alone. -/
theorem conclude_console (s : State) (o : Ocu) (h : s.Ready) (hi : o.magIn = s.ocu.magIn) (ho : o.magOut = s.ocu.magOut) :
    conclude false s { s with ocu := o } = finish { s with ocu := o } := by
  obtain ⟨⟨h1, -, h3, -⟩, h4⟩ := h
  apply conclude_eq_finish
  · exact driveStep_fixed_shown s o s.free h1
  · show s.su.run ≠ .resting; rw [h4]; decide
  · rw [judgeMags_fixed_iff] at h3 ⊢
    have hm : o.magIn = s.magInNow := hi.trans h3.1.symm
    exact ⟨(magInNow_again s o s.free hm).trans hm.symm, h3.2.trans ho.symm⟩
  · exact selectionDue_same _ _ rfl rfl

end Sys2Proof.Machine
end

