-- ==== Sys2Proof/Laws/ClaimFits.lean ====
section
/-! SUPPORT. The claim, skip request and untestable lists keep to their entries: one lemma an operation. -/

set_option linter.all false
namespace Sys2Proof.Machine

@[simp] theorem Wsc.Fits_mk (w : Wsc) (h : w.Fits) (t v vr cw pu) :
    Wsc.Fits ⟨w.claims, t, v, w.skips, vr, cw, pu, w.untestable⟩ := h
@[simp] theorem Wsc.Fits_reset : Wsc.reset.Fits := ⟨Nat.zero_le _, Nat.zero_le _, Nat.zero_le _⟩
@[simp] theorem Wsc.Fits_noSkips (w : Wsc) (h : w.Fits) (t v vr cw pu) :
    Wsc.Fits ⟨w.claims, t, v, [], vr, cw, pu, w.untestable⟩ := ⟨h.1, Nat.zero_le _, h.2.2⟩
@[simp] theorem Wsc.Fits_claimsFilter (w : Wsc) (h : w.Fits) (f t v vr cw pu) :
    Wsc.Fits ⟨w.claims.filter f, t, v, w.skips, vr, cw, pu, w.untestable⟩ := ⟨le_trans (List.length_filter_le _ _) h.1, h.2⟩
@[simp] theorem Wsc.Fits_skipsFilter (w : Wsc) (h : w.Fits) (f t v vr cw pu) :
    Wsc.Fits ⟨w.claims, t, v, w.skips.filter f, vr, cw, pu, w.untestable⟩ :=
  ⟨h.1, le_trans (List.length_filter_le _ _) h.2.1, h.2.2⟩
@[simp] theorem Wsc.Fits_skipsMap (w : Wsc) (h : w.Fits) (f t v vr cw pu) :
    Wsc.Fits ⟨w.claims, t, v, w.skips.map f, vr, cw, pu, w.untestable⟩ := ⟨h.1, by simpa using h.2.1, h.2.2⟩
@[simp] theorem Wsc.Fits_noUntestable (w : Wsc) (h : w.Fits) (t v vr cw pu) :
    Wsc.Fits ⟨w.claims, t, v, w.skips, vr, cw, pu, []⟩ := ⟨h.1, h.2.1, Nat.zero_le _⟩
@[simp] theorem Wsc.Fits_untestableFilter (w : Wsc) (h : w.Fits) (f t v vr cw pu) :
    Wsc.Fits ⟨w.claims, t, v, w.skips, vr, cw, pu, w.untestable.filter f⟩ :=
  ⟨h.1, h.2.1, le_trans (List.length_filter_le _ _) h.2.2⟩
@[simp] theorem Wsc.Fits_slotEnded (k v) (w : Wsc) (h : w.Fits) : (w.slotEnded k v).Fits := h
@[simp] theorem Wsc.Fits_remember (p n) (w : Wsc) (h : w.Fits) : (w.remember p n).Fits := by
  unfold Wsc.remember; (repeat' split) <;> exact h
@[simp] theorem Wsc.Fits_mapFirst (w : Wsc) (h : w.Fits) (f g t v vr cw pu) :
    Wsc.Fits ⟨mapFirst f g w.claims, t, v, w.skips, vr, cw, pu, w.untestable⟩ := by
  refine ⟨?_, h.2⟩
  have : ∀ l : List OwnClaim, (mapFirst f g l).length = l.length := by
    intro l; induction l with
    | nil => rfl
    | cons a l ih => unfold mapFirst; split <;> simp [ih]
  rw [this]; exact h.1

@[simp] theorem foldl_wFits {α : Type} (f : State → α → State) (h : ∀ s x, s.wsc.Fits → (f s x).wsc.Fits) (l : List α)
    (s : State) (hP : s.wsc.Fits) : (l.foldl f s).wsc.Fits := by
  induction l generalizing s with
  | nil => exact hP
  | cons a l ih => exact ih _ (h _ _ hP)

@[simp] theorem raise_wscFits (a : Alarm) (s : State) (hP : Wsc.Fits s.wsc) : Wsc.Fits (raise a s).wsc := by
  unfold raise; (try dsimp only); (repeat' split) <;> first | (with_reducible exact hP) | (simp +contextual (maxDischargeDepth := 12) [hP]; done)

@[simp] theorem clearAlarm_wscFits (a : Alarm) (s : State) (hP : Wsc.Fits s.wsc) : Wsc.Fits (clearAlarm a s).wsc := by
  unfold clearAlarm; (try dsimp only); (repeat' split) <;> first | (with_reducible exact hP) | (simp +contextual (maxDischargeDepth := 12) [hP]; done)

@[simp] theorem edgeAlarm_wscFits (a : Alarm) (before after : Bool) (s : State) (hP : Wsc.Fits s.wsc) : Wsc.Fits (edgeAlarm a before after s).wsc := by
  unfold edgeAlarm; (try dsimp only); (repeat' split) <;> first | (with_reducible exact hP) | (simp +contextual (maxDischargeDepth := 12) [hP]; done)

@[simp] theorem place_wscFits (by_ : Producer) (n : Note) (s : State) (hP : Wsc.Fits s.wsc) : Wsc.Fits (place by_ n s).wsc := by
  unfold place; (try dsimp only); (repeat' split) <;> first | (with_reducible exact hP) | (simp +contextual (maxDischargeDepth := 12) [hP]; done)

@[simp] theorem storeSettle_wscFits (s : State) (hP : Wsc.Fits s.wsc) : Wsc.Fits (storeSettle s).wsc := by
  unfold storeSettle; (try dsimp only); (repeat' split) <;> first | (with_reducible exact hP) | (simp +contextual (maxDischargeDepth := 12) [hP]; done)

@[simp] theorem enterStoreFault_wscFits (s : State) (hP : Wsc.Fits s.wsc) : Wsc.Fits (enterStoreFault s).wsc := by
  unfold enterStoreFault; (try dsimp only); (repeat' split) <;> first | (with_reducible exact hP) | (simp +contextual (maxDischargeDepth := 12) [hP]; done)

@[simp] theorem countFailure_wscFits (s : State) (hP : Wsc.Fits s.wsc) : Wsc.Fits (countFailure s).wsc := by
  unfold countFailure; (try dsimp only); (repeat' split) <;> first | (with_reducible exact hP) | (simp +contextual (maxDischargeDepth := 12) [hP]; done)

@[simp] theorem handleFetch_wscFits (requester : Nat) (f : FetchNote) (s : State) (hP : Wsc.Fits s.wsc) : Wsc.Fits (handleFetch requester f s).wsc := by
  unfold handleFetch; (try dsimp only); (repeat' split) <;> first | (with_reducible exact hP) | (simp +contextual (maxDischargeDepth := 12) [hP]; done)

@[simp] theorem handleCancel_wscFits (tag : Nat) (s : State) (hP : Wsc.Fits s.wsc) : Wsc.Fits (handleCancel tag s).wsc := by
  unfold handleCancel; (try dsimp only); (repeat' split) <;> first | (with_reducible exact hP) | (simp +contextual (maxDischargeDepth := 12) [hP]; done)

@[simp] theorem handleRetract_wscFits (requester tag n : Nat) (s : State) (hP : Wsc.Fits s.wsc) : Wsc.Fits (handleRetract requester tag n s).wsc := by
  unfold handleRetract; (try dsimp only); (repeat' split) <;> first | (with_reducible exact hP) | (simp +contextual (maxDischargeDepth := 12) [hP]; done)

@[simp] theorem dropClaims_wscFits (f : OwnClaim → Bool) (s : State) (hP : Wsc.Fits s.wsc) : Wsc.Fits (dropClaims f s).wsc := by
  unfold dropClaims; (try dsimp only); (repeat' split) <;> first | (with_reducible exact hP) | (simp +contextual (maxDischargeDepth := 12) [hP]; done)

@[simp] theorem closeQueued_wscFits (f : OwnClaim → Bool) (s : State) (hP : Wsc.Fits s.wsc) : Wsc.Fits (closeQueued f s).wsc := by
  unfold closeQueued; (try dsimp only); (repeat' split) <;> first | (with_reducible exact hP) | (simp +contextual (maxDischargeDepth := 12) [hP]; done)

@[simp] theorem selectOne_wscFits (s : State) (hP : Wsc.Fits s.wsc) : Wsc.Fits (selectOne s).wsc := by
  unfold selectOne; dsimp only; split
  · exact hP
  split
  · split
    · rename_i hs ht u g x hf hx
      have hm : s.mayTake false = true := by
        unfold State.firstTask at hf
        split at hf
        · split at hf
          · assumption
          · simp at hf
        · simp at hf
      have : s.wsc.claims.length < Config.ownClaims := by simp [State.mayTake] at hm; exact hm.2
      refine ⟨?_, hP.2⟩
      show (s.wsc.claims ++ [_]).length ≤ _
      rw [List.length_append]; exact this
    · exact hP
  · exact hP

@[simp] theorem closeUntestable_wscFits (s : State) (x : Nat × Nat × Nat) (hP : Wsc.Fits s.wsc) : Wsc.Fits (closeUntestable s x).wsc := by
  unfold closeUntestable; split
  · exact hP
  · rename_i h
    have : s.wsc.untestable.length < Config.untestables := by simp at h; exact h.2
    refine ⟨hP.1, hP.2.1, ?_⟩
    show (s.wsc.untestable ++ [_]).length ≤ _
    rw [List.length_append]; exact this

@[simp] theorem endUntestable_wscFits (n : PullNote) (s : State) (hP : Wsc.Fits s.wsc) : Wsc.Fits (endUntestable n s).wsc := by
  unfold endUntestable; (repeat' split) <;> first | (with_reducible exact hP) | (simp +contextual (maxDischargeDepth := 12) [hP]; done)

@[simp] theorem select_wscFits (s : State) (hP : Wsc.Fits s.wsc) : Wsc.Fits (select s).wsc := by
  unfold select; (try dsimp only); (repeat' split) <;> first | (with_reducible exact hP) | (simp +contextual (maxDischargeDepth := 12) [hP]; done)

@[simp] theorem skipOne_wscFits (t : Table) (s : State) (k : SkipReq) (hP : Wsc.Fits s.wsc) : Wsc.Fits (skipOne t s k).wsc := by
  unfold skipOne; (try dsimp only); (repeat' split) <;> first | (with_reducible exact hP) | (simp +contextual (maxDischargeDepth := 12) [hP]; done)

@[simp] theorem endSkips_wscFits (f : SkipReq → Bool) (s : State) (hP : Wsc.Fits s.wsc) : Wsc.Fits (endSkips f s).wsc := by
  unfold endSkips; (try dsimp only); (repeat' split) <;> first | (with_reducible exact hP) | (simp +contextual (maxDischargeDepth := 12) [hP]; done)

@[simp] theorem dropStray_wscFits (s : State) (hP : Wsc.Fits s.wsc) : Wsc.Fits (dropStray s).wsc := hP

@[simp] theorem settleStray_wscFits (t : Table) (s : State) (hP : Wsc.Fits s.wsc) : Wsc.Fits (settleStray t s).wsc := by
  unfold settleStray; split <;> exact hP

@[simp] theorem skipScan_wscFits (s : State) (hP : Wsc.Fits s.wsc) : Wsc.Fits (skipScan s).wsc := by
  unfold skipScan; split
  · exact hP
  · exact foldl_wFits _ (fun s k h => skipOne_wscFits _ s k h) _ _
      (settleStray_wscFits _ _ (Wsc.Fits_skipsFilter _ (endSkips_wscFits _ _ hP) ..))

@[simp] theorem requestSkip_wscFits (w u : Nat) (s : State) (hP : Wsc.Fits s.wsc) : Wsc.Fits (requestSkip w u s).wsc := by
  unfold requestSkip; split
  · exact hP
  · split
    · exact hP
    · split
      · rename_i h
        apply skipScan_wscFits
        have : s.wsc.skips.length < Config.skipRequests := by simp at h; exact h.2
        refine ⟨hP.1, ?_, hP.2.2⟩
        show (s.wsc.skips ++ [_]).length ≤ _
        rw [List.length_append]; exact this
      · exact hP

@[simp] theorem skipAnswered_wscFits (applied : Bool) (w u : Nat) (s : State) (hP : Wsc.Fits s.wsc) : Wsc.Fits (skipAnswered applied w u s).wsc := by
  unfold skipAnswered; (try dsimp only); (repeat' split) <;> first | (with_reducible exact hP) | (simp +contextual (maxDischargeDepth := 12) [hP]; done)

@[simp] theorem dropSkips_wscFits (s : State) (hP : Wsc.Fits s.wsc) : Wsc.Fits (dropSkips s).wsc := by
  unfold dropSkips; (try dsimp only); (repeat' split) <;> first | (with_reducible exact hP) | (simp +contextual (maxDischargeDepth := 12) [hP]; done)

@[simp] theorem startTakt_wscFits (s : State) (hP : Wsc.Fits s.wsc) : Wsc.Fits (startTakt s).wsc := by
  unfold startTakt; (try dsimp only); (repeat' split) <;> first | (with_reducible exact hP) | (simp +contextual (maxDischargeDepth := 12) [hP]; done)

@[simp] theorem clearWsc_wscFits (s : State) (hP : Wsc.Fits s.wsc) : Wsc.Fits (clearWsc s).wsc := by
  unfold clearWsc; (try dsimp only); (repeat' split) <;> first | (with_reducible exact hP) | (simp +contextual (maxDischargeDepth := 12) [hP]; done)

@[simp] theorem startVoteRec_wscFits (s : State) (hP : Wsc.Fits s.wsc) : Wsc.Fits (startVoteRec s).wsc := by
  unfold startVoteRec; (try dsimp only); (repeat' split) <;> first | (with_reducible exact hP) | (simp +contextual (maxDischargeDepth := 12) [hP]; done)

@[simp] theorem settleVoteRec_wscFits (s : State) (hP : Wsc.Fits s.wsc) : Wsc.Fits (settleVoteRec s).wsc := by
  unfold settleVoteRec; (try dsimp only); (repeat' split) <;> first | (with_reducible exact hP) | (simp +contextual (maxDischargeDepth := 12) [hP]; done)

@[simp] theorem sendHead_wscFits (c : HeadCmd) (s : State) (hP : Wsc.Fits s.wsc) : Wsc.Fits (sendHead c s).wsc := by
  unfold sendHead; (try dsimp only); (repeat' split) <;> first | (with_reducible exact hP) | (simp +contextual (maxDischargeDepth := 12) [hP]; done)

@[simp] theorem reportEnd_wscFits (n : Note) (s : State) (hP : Wsc.Fits s.wsc) : Wsc.Fits (reportEnd n s).wsc := by
  unfold reportEnd; (try dsimp only); (repeat' split) <;> first | (with_reducible exact hP) | (simp +contextual (maxDischargeDepth := 12) [hP]; done)

@[simp] theorem startClaim_wscFits (e : WorkEntry) (s : State) (hP : Wsc.Fits s.wsc) : Wsc.Fits (startClaim e s).wsc := by
  unfold startClaim; (try dsimp only); (repeat' split) <;> first | (with_reducible exact hP) | (simp +contextual (maxDischargeDepth := 12) [hP]; done)

@[simp] theorem workGroup_wscFits (e : WorkEntry) (c : Cursor) (s : State) (hP : Wsc.Fits s.wsc) : Wsc.Fits (workGroup e c s).wsc := by
  unfold workGroup; (try dsimp only); (repeat' split) <;> first | (with_reducible exact hP) | (simp +contextual (maxDischargeDepth := 12) [hP]; done)

@[simp] theorem workTest_wscFits (e : WorkEntry) (c : Cursor) (s : State) (hP : Wsc.Fits s.wsc) : Wsc.Fits (workTest e c s).wsc := by
  unfold workTest; (try dsimp only); (repeat' split) <;> first | (with_reducible exact hP) | (simp +contextual (maxDischargeDepth := 12) [hP]; done)

@[simp] theorem workHead_wscFits (e : WorkEntry) (s : State) (hP : Wsc.Fits s.wsc) : Wsc.Fits (workHead e s).wsc := by
  unfold workHead; (try dsimp only); (repeat' split) <;> first | (with_reducible exact hP) | (simp +contextual (maxDischargeDepth := 12) [hP]; done)

@[simp] theorem endStopped_wscFits (s : State) (hP : Wsc.Fits s.wsc) : Wsc.Fits (endStopped s).wsc := by
  unfold endStopped; (try dsimp only); (repeat' split) <;> first | (with_reducible exact hP) | (simp +contextual (maxDischargeDepth := 12) [hP]; done)

@[simp] theorem stopEnded_wscFits (s : State) (hP : Wsc.Fits s.wsc) : Wsc.Fits (s.stopEnded).wsc := by
  unfold State.stopEnded; (try dsimp only); (repeat' split) <;> first | (with_reducible exact hP) | (simp +contextual (maxDischargeDepth := 12) [hP]; done)

@[simp] theorem parkStopped_wscFits (s : State) (hP : Wsc.Fits s.wsc) : Wsc.Fits (parkStopped s).wsc := by
  unfold parkStopped; (try dsimp only); (repeat' split) <;> first | (with_reducible exact hP) | (simp +contextual (maxDischargeDepth := 12) [hP]; done)

@[simp] theorem driveStep_wscFits (s : State) (hP : Wsc.Fits s.wsc) : Wsc.Fits (driveStep s).wsc := by
  unfold driveStep; (try dsimp only); (repeat' split) <;> first | (with_reducible exact hP) | (simp +contextual (maxDischargeDepth := 12) [hP]; done)

@[simp] theorem driveN_wscFits (n : Nat) (s : State) (hP : Wsc.Fits s.wsc) : Wsc.Fits (driveN n s).wsc := by
  induction n generalizing s with
  | zero => simpa [driveN] using hP
  | succ n ih => exact ih _ (by simp (maxDischargeDepth := 12) [hP])

@[simp] theorem drive_wscFits (s : State) (hP : Wsc.Fits s.wsc) : Wsc.Fits (drive s).wsc := by
  unfold drive; (try dsimp only); (repeat' split) <;> first | (with_reducible exact hP) | (simp +contextual (maxDischargeDepth := 12) [hP]; done)

@[simp] theorem releaseWork_wscFits (f : WorkEntry → Bool) (s : State) (hP : Wsc.Fits s.wsc) : Wsc.Fits (releaseWork f s).wsc := by
  unfold releaseWork; (try dsimp only); (repeat' split) <;> first | (with_reducible exact hP) | (simp +contextual (maxDischargeDepth := 12) [hP]; done)

@[simp] theorem dropMarked_wscFits (s : State) (hP : Wsc.Fits s.wsc) : Wsc.Fits (dropMarked s).wsc := by
  unfold dropMarked; (try dsimp only); (repeat' split) <;> first | (with_reducible exact hP) | (simp +contextual (maxDischargeDepth := 12) [hP]; done)

@[simp] theorem enterHalted_wscFits (s : State) (hP : Wsc.Fits s.wsc) : Wsc.Fits (enterHalted s).wsc := by
  unfold enterHalted; (try dsimp only); (repeat' split) <;> first | (with_reducible exact hP) | (simp +contextual (maxDischargeDepth := 12) [hP]; done)

@[simp] theorem enterSpoolOut_wscFits (s : State) (hP : Wsc.Fits s.wsc) : Wsc.Fits (enterSpoolOut s).wsc := by
  unfold enterSpoolOut; (try dsimp only); (repeat' split) <;> first | (with_reducible exact hP) | (simp +contextual (maxDischargeDepth := 12) [hP]; done)

@[simp] theorem actAlert_wscFits (a : AlertKind) (s : State) (hP : Wsc.Fits s.wsc) : Wsc.Fits (actAlert a s).wsc := by
  unfold actAlert; (try dsimp only); (repeat' split) <;> first | (with_reducible exact hP) | (simp +contextual (maxDischargeDepth := 12) [hP]; done)

@[simp] theorem leaveHalt_wscFits (pos : HeadPos) (s : State) (hP : Wsc.Fits s.wsc) : Wsc.Fits (leaveHalt pos s).wsc := by
  unfold leaveHalt; (try dsimp only); (repeat' split) <;> first | (with_reducible exact hP) | (simp +contextual (maxDischargeDepth := 12) [hP]; done)

@[simp] theorem setHead_wscFits (h : HeadPos) (s : State) (hP : Wsc.Fits s.wsc) : Wsc.Fits (setHead h s).wsc := by
  unfold setHead; (try dsimp only); (repeat' split) <;> first | (with_reducible exact hP) | (simp +contextual (maxDischargeDepth := 12) [hP]; done)

@[simp] theorem wireDone_wscFits (m : Meas) (s : State) (hP : Wsc.Fits s.wsc) : Wsc.Fits (wireDone m s).wsc := by
  unfold wireDone; (try dsimp only); (repeat' split) <;> first | (with_reducible exact hP) | (simp +contextual (maxDischargeDepth := 12) [hP]; done)

@[simp] theorem wireMissed_wscFits (s : State) (hP : Wsc.Fits s.wsc) : Wsc.Fits (wireMissed s).wsc := by
  unfold wireMissed; (try dsimp only); (repeat' split) <;> first | (with_reducible exact hP) | (simp +contextual (maxDischargeDepth := 12) [hP]; done)

@[simp] theorem pullOutcome_wscFits (res : Nat → Nat × Nat × Nat) (s : State) (hP : Wsc.Fits s.wsc) : Wsc.Fits (pullOutcome res s).wsc := by
  unfold pullOutcome; (try dsimp only); (repeat' split) <;> first | (with_reducible exact hP) | (simp +contextual (maxDischargeDepth := 12) [hP]; done)

@[simp] theorem hookMissed_wscFits (s : State) (hP : Wsc.Fits s.wsc) : Wsc.Fits (hookMissed s).wsc := by
  unfold hookMissed; (try dsimp only); (repeat' split) <;> first | (with_reducible exact hP) | (simp +contextual (maxDischargeDepth := 12) [hP]; done)

@[simp] theorem answerCmd_wscFits (cmd : HeadCmd) (c : Completion) (s : State) (hP : Wsc.Fits s.wsc) : Wsc.Fits (answerCmd cmd c s).wsc := by
  unfold answerCmd; (try dsimp only); (repeat' split) <;> first | (with_reducible exact hP) | (simp +contextual (maxDischargeDepth := 12) [hP]; done)

@[simp] theorem endClaims_wscFits (s : State) (hP : Wsc.Fits s.wsc) : Wsc.Fits (endClaims s).wsc := by
  unfold endClaims; (try dsimp only); (repeat' split) <;> first | (with_reducible exact hP) | (simp +contextual (maxDischargeDepth := 12) [hP]; done)

@[simp] theorem endCmd_wscFits (o : Outstanding) (c : Completion) (s : State) (hP : Wsc.Fits s.wsc) : Wsc.Fits (endCmd o c s).wsc := by
  unfold endCmd; (try dsimp only); (repeat' split) <;> first | (with_reducible exact hP) | (simp +contextual (maxDischargeDepth := 12) [hP]; done)

@[simp] theorem headAnswer_wscFits (tag : Byte) (c : Completion) (s : State) (hP : Wsc.Fits s.wsc) : Wsc.Fits (headAnswer tag c s).wsc := by
  unfold headAnswer; (try dsimp only); (repeat' split) <;> first | (with_reducible exact hP) | (simp +contextual (maxDischargeDepth := 12) [hP]; done)

@[simp] theorem headExpired_wscFits (s : State) (hP : Wsc.Fits s.wsc) : Wsc.Fits (headExpired s).wsc := by
  unfold headExpired; (try dsimp only); (repeat' split) <;> first | (with_reducible exact hP) | (simp +contextual (maxDischargeDepth := 12) [hP]; done)

@[simp] theorem handClaim_wscFits (e : OwnClaim) (s : State) (hP : Wsc.Fits s.wsc) : Wsc.Fits (handClaim e s).wsc := by
  unfold handClaim; (try dsimp only); (repeat' split) <;> first | (with_reducible exact hP) | (simp +contextual (maxDischargeDepth := 12) [hP]; done)

@[simp] theorem closeWork_wscFits (f : WorkEntry → Bool) (s : State) (hP : Wsc.Fits s.wsc) : Wsc.Fits (closeWork f s).wsc := by
  unfold closeWork; (try dsimp only); (repeat' split) <;> first | (with_reducible exact hP) | (simp +contextual (maxDischargeDepth := 12) [hP]; done)

@[simp] theorem closeClaims_wscFits (f : Nat → Bool) (s : State) (hP : Wsc.Fits s.wsc) : Wsc.Fits (closeClaims f s).wsc := by
  unfold closeClaims; (try dsimp only); (repeat' split) <;> first | (with_reducible exact hP) | (simp +contextual (maxDischargeDepth := 12) [hP]; done)

@[simp] theorem loseClaim_wscFits (w u g : Nat) (s : State) (hP : Wsc.Fits s.wsc) : Wsc.Fits (loseClaim w u g s).wsc := by
  unfold loseClaim; (try dsimp only); (repeat' split) <;> first | (with_reducible exact hP) | (simp +contextual (maxDischargeDepth := 12) [hP]; done)

@[simp] theorem stopWork_wscFits (s : State) (hP : Wsc.Fits s.wsc) : Wsc.Fits (stopWork s).wsc := by
  unfold stopWork; (try dsimp only); (repeat' split) <;> first | (with_reducible exact hP) | (simp +contextual (maxDischargeDepth := 12) [hP]; done)

@[simp] theorem indexPark_wscFits (s : State) (hP : Wsc.Fits s.wsc) : Wsc.Fits (indexPark s).wsc := by
  unfold indexPark; (try dsimp only); (repeat' split) <;> first | (with_reducible exact hP) | (simp +contextual (maxDischargeDepth := 12) [hP]; done)

@[simp] theorem takePause_wscFits (s : State) (hP : Wsc.Fits s.wsc) : Wsc.Fits (takePause s).wsc := by
  unfold takePause; (try dsimp only); (repeat' split) <;> first | (with_reducible exact hP) | (simp +contextual (maxDischargeDepth := 12) [hP]; done)

@[simp] theorem takeResume_wscFits (s : State) (hP : Wsc.Fits s.wsc) : Wsc.Fits (takeResume s).wsc := by
  unfold takeResume; (try dsimp only); (repeat' split) <;> first | (with_reducible exact hP) | (simp +contextual (maxDischargeDepth := 12) [hP]; done)

@[simp] theorem takeClear_wscFits (st : BState) (s : State) (hP : Wsc.Fits s.wsc) : Wsc.Fits (takeClear st s).wsc := by
  unfold takeClear; (try dsimp only); (repeat' split) <;> first | (with_reducible exact hP) | (simp +contextual (maxDischargeDepth := 12) [hP]; done)

@[simp] theorem restartBsq_wscFits (s : State) (hP : Wsc.Fits s.wsc) : Wsc.Fits (restartBsq s).wsc := by
  unfold restartBsq; (try dsimp only); (repeat' split) <;> first | (with_reducible exact hP) | (simp +contextual (maxDischargeDepth := 12) [hP]; done)

@[simp] theorem restBsq_wscFits (s : State) (hP : Wsc.Fits s.wsc) : Wsc.Fits (restBsq s).wsc := by
  unfold restBsq; (try dsimp only); (repeat' split) <;> first | (with_reducible exact hP) | (simp +contextual (maxDischargeDepth := 12) [hP]; done)

@[simp] theorem settle_wscFits (always : Bool) (old : State) (s : State) (hP : Wsc.Fits s.wsc) : Wsc.Fits (settle always old s).wsc := by
  unfold settle; (try dsimp only); (repeat' split) <;> first | (with_reducible exact hP) | (simp +contextual (maxDischargeDepth := 12) [hP]; done)

@[simp] theorem sense_wscFits (lv : Levels) (s : State) (hP : Wsc.Fits s.wsc) : Wsc.Fits (sense lv s).wsc := by
  unfold sense; (try dsimp only); (repeat' split) <;> first | (with_reducible exact hP) | (simp +contextual (maxDischargeDepth := 12) [hP]; done)

@[simp] theorem setClamp_wscFits (c : ClampSt) (s : State) (hP : Wsc.Fits s.wsc) : Wsc.Fits (setClamp c s).wsc := by
  unfold setClamp; (try dsimp only); (repeat' split) <;> first | (with_reducible exact hP) | (simp +contextual (maxDischargeDepth := 12) [hP]; done)

@[simp] theorem tellOpen_wscFits (b : Bool) (s : State) (hP : Wsc.Fits s.wsc) : Wsc.Fits (tellOpen b s).wsc := by
  unfold tellOpen; (try dsimp only); (repeat' split) <;> first | (with_reducible exact hP) | (simp +contextual (maxDischargeDepth := 12) [hP]; done)

@[simp] theorem openClamp_wscFits (s : State) (hP : Wsc.Fits s.wsc) : Wsc.Fits (openClamp s).wsc := by
  unfold openClamp; (try dsimp only); (repeat' split) <;> first | (with_reducible exact hP) | (simp +contextual (maxDischargeDepth := 12) [hP]; done)

@[simp] theorem closeClamp_wscFits (s : State) (hP : Wsc.Fits s.wsc) : Wsc.Fits (closeClamp s).wsc := by
  unfold closeClamp; (try dsimp only); (repeat' split) <;> first | (with_reducible exact hP) | (simp +contextual (maxDischargeDepth := 12) [hP]; done)

@[simp] theorem takeUpClamp_wscFits (s : State) (hP : Wsc.Fits s.wsc) : Wsc.Fits (takeUpClamp s).wsc := by
  unfold takeUpClamp; (try dsimp only); (repeat' split) <;> first | (with_reducible exact hP) | (simp +contextual (maxDischargeDepth := 12) [hP]; done)

@[simp] theorem clearClamp_wscFits (s : State) (hP : Wsc.Fits s.wsc) : Wsc.Fits (clearClamp s).wsc := by
  unfold clearClamp; (try dsimp only); (repeat' split) <;> first | (with_reducible exact hP) | (simp +contextual (maxDischargeDepth := 12) [hP]; done)

@[simp] theorem startBeam_wscFits (s : State) (hP : Wsc.Fits s.wsc) : Wsc.Fits (startBeam s).wsc := by
  unfold startBeam; (try dsimp only); (repeat' split) <;> first | (with_reducible exact hP) | (simp +contextual (maxDischargeDepth := 12) [hP]; done)

@[simp] theorem motionNote_wscFits (m : Bool) (n : Note) (s : State) (hP : Wsc.Fits s.wsc) : Wsc.Fits (motionNote m n s).wsc := by
  unfold motionNote; (try dsimp only); (repeat' split) <;> first | (with_reducible exact hP) | (simp +contextual (maxDischargeDepth := 12) [hP]; done)

@[simp] theorem faultBeam_wscFits (cause : Nat) (s : State) (hP : Wsc.Fits s.wsc) : Wsc.Fits (faultBeam cause s).wsc := by
  unfold faultBeam; (try dsimp only); (repeat' split) <;> first | (with_reducible exact hP) | (simp +contextual (maxDischargeDepth := 12) [hP]; done)

@[simp] theorem indexOpens_wscFits (s : State) (hP : Wsc.Fits s.wsc) : Wsc.Fits (indexOpens s).wsc := by
  unfold indexOpens; (try dsimp only); (repeat' split) <;> first | (with_reducible exact hP) | (simp +contextual (maxDischargeDepth := 12) [hP]; done)

@[simp] theorem indexCloses_wscFits (s : State) (hP : Wsc.Fits s.wsc) : Wsc.Fits (indexCloses s).wsc := by
  unfold indexCloses; (try dsimp only); (repeat' split) <;> first | (with_reducible exact hP) | (simp +contextual (maxDischargeDepth := 12) [hP]; done)

@[simp] theorem putElev_wscFits (m : MagName) (e : Elev) (s : State) (hP : Wsc.Fits s.wsc) : Wsc.Fits (putElev m e s).wsc := by
  unfold putElev; (try dsimp only); (repeat' split) <;> first | (with_reducible exact hP) | (simp +contextual (maxDischargeDepth := 12) [hP]; done)

@[simp] theorem chooseTarget_wscFits (m : MagName) (s : State) (hP : Wsc.Fits s.wsc) : Wsc.Fits (chooseTarget m s).wsc := by
  unfold chooseTarget; (try dsimp only); (repeat' split) <;> first | (with_reducible exact hP) | (simp +contextual (maxDischargeDepth := 12) [hP]; done)

@[simp] theorem scanEnd_wscFits (m : MagName) (s : State) (hP : Wsc.Fits s.wsc) : Wsc.Fits (scanEnd m s).wsc := by
  unfold scanEnd; (try dsimp only); (repeat' split) <;> first | (with_reducible exact hP) | (simp +contextual (maxDischargeDepth := 12) [hP]; done)

@[simp] theorem scanSlot_wscFits (m : MagName) (i : Nat) (s : State) (hP : Wsc.Fits s.wsc) : Wsc.Fits (scanSlot m i s).wsc := by
  unfold scanSlot; (try dsimp only); (repeat' split) <;> first | (with_reducible exact hP) | (simp +contextual (maxDischargeDepth := 12) [hP]; done)

@[simp] theorem homeFound_wscFits (m : MagName) (s : State) (hP : Wsc.Fits s.wsc) : Wsc.Fits (homeFound m s).wsc := by
  unfold homeFound; (try dsimp only); (repeat' split) <;> first | (with_reducible exact hP) | (simp +contextual (maxDischargeDepth := 12) [hP]; done)

@[simp] theorem startHoming_wscFits (m : MagName) (s : State) (hP : Wsc.Fits s.wsc) : Wsc.Fits (startHoming m s).wsc := by
  unfold startHoming; (try dsimp only); (repeat' split) <;> first | (with_reducible exact hP) | (simp +contextual (maxDischargeDepth := 12) [hP]; done)

@[simp] theorem takeUpElev_wscFits (m : MagName) (s : State) (hP : Wsc.Fits s.wsc) : Wsc.Fits (takeUpElev m s).wsc := by
  unfold takeUpElev; (try dsimp only); (repeat' split) <;> first | (with_reducible exact hP) | (simp +contextual (maxDischargeDepth := 12) [hP]; done)

@[simp] theorem stepElev_wscFits (m : MagName) (s : State) (hP : Wsc.Fits s.wsc) : Wsc.Fits (stepElev m s).wsc := by
  unfold stepElev; (try dsimp only); (repeat' split) <;> first | (with_reducible exact hP) | (simp +contextual (maxDischargeDepth := 12) [hP]; done)

@[simp] theorem putPush_wscFits (p : PusherName) (x : Push) (s : State) (hP : Wsc.Fits s.wsc) : Wsc.Fits (putPush p x s).wsc := by
  unfold putPush; (try dsimp only); (repeat' split) <;> first | (with_reducible exact hP) | (simp +contextual (maxDischargeDepth := 12) [hP]; done)

@[simp] theorem faultPush_wscFits (p : PusherName) (s : State) (hP : Wsc.Fits s.wsc) : Wsc.Fits (faultPush p s).wsc := by
  unfold faultPush; (try dsimp only); (repeat' split) <;> first | (with_reducible exact hP) | (simp +contextual (maxDischargeDepth := 12) [hP]; done)

@[simp] theorem takeUpPush_wscFits (p : PusherName) (s : State) (hP : Wsc.Fits s.wsc) : Wsc.Fits (takeUpPush p s).wsc := by
  unfold takeUpPush; (try dsimp only); (repeat' split) <;> first | (with_reducible exact hP) | (simp +contextual (maxDischargeDepth := 12) [hP]; done)

@[simp] theorem countMissed_wscFits (id : Nat) (s : State) (hP : Wsc.Fits s.wsc) : Wsc.Fits (countMissed id s).wsc := by
  unfold countMissed; (try dsimp only); (repeat' split) <;> first | (with_reducible exact hP) | (simp +contextual (maxDischargeDepth := 12) [hP]; done)

@[simp] theorem report_wscFits (p : PusherName) (n : Note) (s : State) (hP : Wsc.Fits s.wsc) : Wsc.Fits (report p n s).wsc := by
  unfold report; (try dsimp only); (repeat' split) <;> first | (with_reducible exact hP) | (simp +contextual (maxDischargeDepth := 12) [hP]; done)

@[simp] theorem finishPush_wscFits (p : PusherName) (s : State) (hP : Wsc.Fits s.wsc) : Wsc.Fits (finishPush p s).wsc := by
  unfold finishPush; (try dsimp only); (repeat' split) <;> first | (with_reducible exact hP) | (simp +contextual (maxDischargeDepth := 12) [hP]; done)

@[simp] theorem pushAnswered_wscFits (applied : Bool) (n : Note) (p : PusherName) (s : State) (hP : Wsc.Fits s.wsc) : Wsc.Fits (pushAnswered applied n p s).wsc := by
  unfold pushAnswered; (try dsimp only); (repeat' split) <;> first | (with_reducible exact hP) | (simp +contextual (maxDischargeDepth := 12) [hP]; done)

@[simp] theorem takeSeated_wscFits (s : State) (hP : Wsc.Fits s.wsc) : Wsc.Fits (takeSeated s).wsc := by
  unfold takeSeated; (try dsimp only); (repeat' split) <;> first | (with_reducible exact hP) | (simp +contextual (maxDischargeDepth := 12) [hP]; done)

@[simp] theorem takeRemoved_wscFits (s : State) (hP : Wsc.Fits s.wsc) : Wsc.Fits (takeRemoved s).wsc := by
  unfold takeRemoved; (try dsimp only); (repeat' split) <;> first | (with_reducible exact hP) | (simp +contextual (maxDischargeDepth := 12) [hP]; done)

@[simp] theorem takeUpFeed_wscFits (s : State) (hP : Wsc.Fits s.wsc) : Wsc.Fits (takeUpFeed s).wsc := by
  unfold takeUpFeed; (try dsimp only); (repeat' split) <;> first | (with_reducible exact hP) | (simp +contextual (maxDischargeDepth := 12) [hP]; done)

@[simp] theorem takeUpUnload_wscFits (s : State) (hP : Wsc.Fits s.wsc) : Wsc.Fits (takeUpUnload s).wsc := by
  unfold takeUpUnload; (try dsimp only); (repeat' split) <;> first | (with_reducible exact hP) | (simp +contextual (maxDischargeDepth := 12) [hP]; done)

@[simp] theorem takeUp_wscFits (s : State) (hP : Wsc.Fits s.wsc) : Wsc.Fits (takeUp s).wsc := by
  unfold takeUp; (try dsimp only); (repeat' split) <;> first | (with_reducible exact hP) | (simp +contextual (maxDischargeDepth := 12) [hP]; done)

@[simp] theorem giveUp_wscFits (s : State) (hP : Wsc.Fits s.wsc) : Wsc.Fits (giveUp s).wsc := by
  unfold giveUp; (try dsimp only); (repeat' split) <;> first | (with_reducible exact hP) | (simp +contextual (maxDischargeDepth := 12) [hP]; done)

@[simp] theorem restElev_wscFits (m : MagName) (s : State) (hP : Wsc.Fits s.wsc) : Wsc.Fits (restElev m s).wsc :=
  putElev_wscFits _ _ _ hP

@[simp] theorem restElevs_wscFits (s : State) (hP : Wsc.Fits s.wsc) : Wsc.Fits (restElevs s).wsc :=
  restElev_wscFits _ _ (restElev_wscFits _ _ (restElev_wscFits _ _ hP))

@[simp] theorem restartTmu_wscFits (s : State) (hP : Wsc.Fits s.wsc) : Wsc.Fits (restartTmu s).wsc := by
  unfold restartTmu; (try dsimp only); (repeat' split) <;> first | (with_reducible exact hP) | (simp +contextual (maxDischargeDepth := 12) [hP]; done)

@[simp] theorem judgeMags_wscFits (s : State) (hP : Wsc.Fits s.wsc) : Wsc.Fits (judgeMags s).wsc := by
  unfold judgeMags; (try dsimp only); (repeat' split) <;> first | (with_reducible exact hP) | (simp +contextual (maxDischargeDepth := 12) [hP]; done)

@[simp] theorem settleClampWait_wscFits (s : State) (hP : Wsc.Fits s.wsc) : Wsc.Fits (settleClampWait s).wsc := by
  unfold settleClampWait; (try dsimp only); (repeat' split) <;> first | (with_reducible exact hP) | (simp +contextual (maxDischargeDepth := 12) [hP]; done)

@[simp] theorem closeClass_wscFits (c : Nat) (s : State) (hP : Wsc.Fits s.wsc) : Wsc.Fits (closeClass c s).wsc := by
  unfold closeClass; (try dsimp only); (repeat' split) <;> first | (with_reducible exact hP) | (simp +contextual (maxDischargeDepth := 12) [hP]; done)

@[simp] theorem judgeHolds_wscFits (failing : Bool) (old : State) (s : State) (hP : Wsc.Fits s.wsc) : Wsc.Fits (judgeHolds failing old s).wsc := by
  unfold judgeHolds; (try dsimp only); (repeat' split) <;> first | (with_reducible exact hP) | (simp +contextual (maxDischargeDepth := 12) [hP]; done)

@[simp] theorem reView_wscFits (failing : Bool) (old : State) (s : State) (hP : Wsc.Fits s.wsc) : Wsc.Fits (reView failing old s).wsc := by
  unfold reView; (try dsimp only); (repeat' split) <;> first | (with_reducible exact hP) | (simp +contextual (maxDischargeDepth := 12) [hP]; done)

@[simp] theorem moveLost_wscFits (s : State) (hP : Wsc.Fits s.wsc) : Wsc.Fits (moveLost s).wsc := by
  unfold moveLost; (try dsimp only); (repeat' split) <;> first | (with_reducible exact hP) | (simp +contextual (maxDischargeDepth := 12) [hP]; done)

@[simp] theorem claimApplied_wscFits (w u g : Nat) (s : State) (hP : Wsc.Fits s.wsc) : Wsc.Fits (claimApplied w u g s).wsc := by
  unfold claimApplied; (try dsimp only); (repeat' split) <;> first | (with_reducible exact hP) | (simp +contextual (maxDischargeDepth := 12) [hP]; done)

@[simp] theorem indexStarted_wscFits (s : State) (hP : Wsc.Fits s.wsc) : Wsc.Fits (indexStarted s).wsc := by
  unfold indexStarted; (try dsimp only); (repeat' split) <;> first | (with_reducible exact hP) | (simp +contextual (maxDischargeDepth := 12) [hP]; done)

@[simp] theorem indexEnded_wscFits (shift : Bool) (s : State) (hP : Wsc.Fits s.wsc) : Wsc.Fits (indexEnded shift s).wsc := by
  unfold indexEnded; (try dsimp only); (repeat' split) <;> first | (with_reducible exact hP) | (simp +contextual (maxDischargeDepth := 12) [hP]; done)

@[simp] theorem retarget_wscFits (m : MagName) (s : State) (hP : Wsc.Fits s.wsc) : Wsc.Fits (retarget m s).wsc := by
  unfold retarget; (try dsimp only); (repeat' split) <;> first | (with_reducible exact hP) | (simp +contextual (maxDischargeDepth := 12) [hP]; done)

@[simp] theorem reseek_wscFits (m : MagName) (s : State) (hP : Wsc.Fits s.wsc) : Wsc.Fits (reseek m s).wsc := by
  unfold reseek; (try dsimp only); (repeat' split) <;> first | (with_reducible exact hP) | (simp +contextual (maxDischargeDepth := 12) [hP]; done)

@[simp] theorem loadedAnswered_wscFits (m : Nat) (ev : Nat) (s : State) (hP : Wsc.Fits s.wsc) : Wsc.Fits (loadedAnswered m ev s).wsc := by
  unfold loadedAnswered; (try dsimp only); (repeat' split) <;> first | (with_reducible exact hP) | (simp +contextual (maxDischargeDepth := 12) [hP]; done)

@[simp] theorem pushersAnswered_wscFits (applied : Bool) (n : Note) (s : State) (hP : Wsc.Fits s.wsc) : Wsc.Fits (pushersAnswered applied n s).wsc := by
  unfold pushersAnswered; (try dsimp only); (repeat' split) <;> first | (with_reducible exact hP) | (simp +contextual (maxDischargeDepth := 12) [hP]; done)

@[simp] theorem pullApplied_wscFits (p : Plan) (own : Bool) (sender index : Nat) (n : PullNote) (s : State) (hP : Wsc.Fits s.wsc) : Wsc.Fits (pullApplied p own sender index n s).wsc := by
  unfold pullApplied; (try dsimp only); (repeat' split) <;> first | (with_reducible exact hP) | (simp +contextual (maxDischargeDepth := 12) [hP]; done)

@[simp] theorem stripGone_wscFits (id : Nat) (s : State) (hP : Wsc.Fits s.wsc) : Wsc.Fits (stripGone id s).wsc := by
  unfold stripGone; (try dsimp only); (repeat' split) <;> first | (with_reducible exact hP) | (simp +contextual (maxDischargeDepth := 12) [hP]; done)

@[simp] theorem tellApplied_wscFits (p : Plan) (own : Bool) (sender : Nat) (t t' : Table) (n : Note) (s : State) (hP : Wsc.Fits s.wsc) : Wsc.Fits (tellApplied p own sender t t' n s).wsc := by
  unfold tellApplied; (try dsimp only); (repeat' split) <;> first | (with_reducible exact hP) | (simp +contextual (maxDischargeDepth := 12) [hP]; done)

@[simp] theorem tellRefused_wscFits (n : Note) (s : State) (hP : Wsc.Fits s.wsc) : Wsc.Fits (tellRefused n s).wsc := by
  unfold tellRefused; (try dsimp only); (repeat' split) <;> first | (with_reducible exact hP) | (simp +contextual (maxDischargeDepth := 12) [hP]; done)

@[simp] theorem tellUnread_wscFits (n : Note) (s : State) (hP : Wsc.Fits s.wsc) : Wsc.Fits (tellUnread n s).wsc := by
  unfold tellUnread; (try dsimp only); (repeat' split) <;> first | (with_reducible exact hP) | (simp +contextual (maxDischargeDepth := 12) [hP]; done)

@[simp] theorem putTable_wscFits (t : Table) (s : State) (hP : Wsc.Fits s.wsc) : Wsc.Fits (putTable t s).wsc := by
  unfold putTable; (try dsimp only); (repeat' split) <;> first | (with_reducible exact hP) | (simp +contextual (maxDischargeDepth := 12) [hP]; done)

@[simp] theorem noteApplied_wscFits (p : Plan) (c : NoteCtx) (t t' : Table) (n : Note) (s : State) (hP : Wsc.Fits s.wsc) : Wsc.Fits (noteApplied p c t t' n s).wsc := by
  unfold noteApplied; (try dsimp only); (repeat' split) <;> first | (with_reducible exact hP) | (simp +contextual (maxDischargeDepth := 12) [hP]; done)

@[simp] theorem noteRefused_wscFits (c : NoteCtx) (n : Note) (s : State) (hP : Wsc.Fits s.wsc) : Wsc.Fits (noteRefused c n s).wsc := by
  unfold noteRefused; (try dsimp only); (repeat' split) <;> first | (with_reducible exact hP) | (simp +contextual (maxDischargeDepth := 12) [hP]; done)

@[simp] theorem copierNote_wscFits (p : Plan) (c : NoteCtx) (t : Table) (n : Note) (s : State) (hP : Wsc.Fits s.wsc) : Wsc.Fits (copierNote p c t n s).wsc := by
  unfold copierNote; (try dsimp only); (repeat' split) <;> first | (with_reducible exact hP) | (simp +contextual (maxDischargeDepth := 12) [hP]; done)

@[simp] theorem handNote_wscFits (f : Frame) (n : Note) (s : State) (hP : Wsc.Fits s.wsc) : Wsc.Fits (handNote f n s).wsc := by
  unfold handNote; (try dsimp only); (repeat' split) <;> first | (with_reducible exact hP) | (simp +contextual (maxDischargeDepth := 12) [hP]; done)

@[simp] theorem enterResync_wscFits (p : Plan) (s : State) (hP : Wsc.Fits s.wsc) : Wsc.Fits (enterResync p s).wsc := by
  unfold enterResync; (try dsimp only); (repeat' split) <;> first | (with_reducible exact hP) | (simp +contextual (maxDischargeDepth := 12) [hP]; done)

@[simp] theorem tableCompleted_wscFits (s : State) (hP : Wsc.Fits s.wsc) : Wsc.Fits (tableCompleted s).wsc := by
  unfold tableCompleted; (try dsimp only); (repeat' split) <;> first | (with_reducible exact hP) | (simp +contextual (maxDischargeDepth := 12) [hP]; done)

@[simp] theorem leaveResync_wscFits (s : State) (hP : Wsc.Fits s.wsc) : Wsc.Fits (leaveResync s).wsc := by
  unfold leaveResync; (try dsimp only); (repeat' split) <;> first | (with_reducible exact hP) | (simp +contextual (maxDischargeDepth := 12) [hP]; done)

@[simp] theorem checkClaims_wscFits (w lo : Nat) (s : State) (hP : Wsc.Fits s.wsc) : Wsc.Fits (checkClaims w lo s).wsc := by
  unfold checkClaims; (try dsimp only); (repeat' split) <;> first | (with_reducible exact hP) | (simp +contextual (maxDischargeDepth := 12) [hP]; done)

@[simp] theorem retargetCopied_wscFits (n : Nat) (s : State) (hP : Wsc.Fits s.wsc) : Wsc.Fits (retargetCopied n s).wsc := by
  unfold retargetCopied; (try dsimp only); (repeat' split) <;> first | (with_reducible exact hP) | (simp +contextual (maxDischargeDepth := 12) [hP]; done)

@[simp] theorem takeSection_wscFits (p : Plan) (n : Nat) (body : List Byte) (s : State) (hP : Wsc.Fits s.wsc) : Wsc.Fits (takeSection p n body s).wsc := by
  unfold takeSection; (try dsimp only); (repeat' split) <;> first | (with_reducible exact hP) | (simp +contextual (maxDischargeDepth := 12) [hP]; done)

@[simp] theorem handHeader_wscFits (f : Frame) (s : State) (hP : Wsc.Fits s.wsc) : Wsc.Fits (handHeader f s).wsc := by
  unfold handHeader; (try dsimp only); (repeat' split) <;> first | (with_reducible exact hP) | (simp +contextual (maxDischargeDepth := 12) [hP]; done)

@[simp] theorem unreadableHeard_wscFits (s : State) (hP : Wsc.Fits s.wsc) : Wsc.Fits (unreadableHeard s).wsc := by
  unfold unreadableHeard; (try dsimp only); (repeat' split) <;> first | (with_reducible exact hP) | (simp +contextual (maxDischargeDepth := 12) [hP]; done)

@[simp] theorem absence_wscFits (k : Nat) (s : State) (hP : Wsc.Fits s.wsc) : Wsc.Fits (absence k s).wsc := by
  unfold absence; (try dsimp only); (repeat' split) <;> first | (with_reducible exact hP) | (simp +contextual (maxDischargeDepth := 12) [hP]; done)

@[simp] theorem resyncExpired_wscFits (s : State) (hP : Wsc.Fits s.wsc) : Wsc.Fits (resyncExpired s).wsc := by
  unfold resyncExpired; (try dsimp only); (repeat' split) <;> first | (with_reducible exact hP) | (simp +contextual (maxDischargeDepth := 12) [hP]; done)

@[simp] theorem discardTable_wscFits (s : State) (hP : Wsc.Fits s.wsc) : Wsc.Fits (discardTable s).wsc := by
  unfold discardTable; (try dsimp only); (repeat' split) <;> first | (with_reducible exact hP) | (simp +contextual (maxDischargeDepth := 12) [hP]; done)

@[simp] theorem beginGather_wscFits (s : State) (hP : Wsc.Fits s.wsc) : Wsc.Fits (beginGather s).wsc := by
  unfold beginGather; (try dsimp only); (repeat' split) <;> first | (with_reducible exact hP) | (simp +contextual (maxDischargeDepth := 12) [hP]; done)

@[simp] theorem startFresh_wscFits (s : State) (hP : Wsc.Fits s.wsc) : Wsc.Fits (startFresh s).wsc := by
  unfold startFresh; (try dsimp only); (repeat' split) <;> first | (with_reducible exact hP) | (simp +contextual (maxDischargeDepth := 12) [hP]; done)

@[simp] theorem becomeActive_wscFits (s : State) (hP : Wsc.Fits s.wsc) : Wsc.Fits (becomeActive s).wsc := by
  unfold becomeActive; (try dsimp only); (repeat' split) <;> first | (with_reducible exact hP) | (simp +contextual (maxDischargeDepth := 12) [hP]; done)

@[simp] theorem checkJoin_wscFits (s : State) (hP : Wsc.Fits s.wsc) : Wsc.Fits (checkJoin s).wsc := by
  unfold checkJoin; (try dsimp only); (repeat' split) <;> first | (with_reducible exact hP) | (simp +contextual (maxDischargeDepth := 12) [hP]; done)

@[simp] theorem countJoin_wscFits (gath : Bool) (s : State) (hP : Wsc.Fits s.wsc) : Wsc.Fits (countJoin gath s).wsc := by
  unfold countJoin; (try dsimp only); (repeat' split) <;> first | (with_reducible exact hP) | (simp +contextual (maxDischargeDepth := 12) [hP]; done)

@[simp] theorem watches_wscFits (sender due res : Bool) (s : State) (hP : Wsc.Fits s.wsc) : Wsc.Fits (watches sender due res s).wsc := by
  unfold watches; (try dsimp only); (repeat' split) <;> first | (with_reducible exact hP) | (simp +contextual (maxDischargeDepth := 12) [hP]; done)

@[simp] theorem clearStaging_wscFits (s : State) (hP : Wsc.Fits s.wsc) : Wsc.Fits (clearStaging s).wsc := by
  unfold clearStaging; (try dsimp only); (repeat' split) <;> first | (with_reducible exact hP) | (simp +contextual (maxDischargeDepth := 12) [hP]; done)

@[simp] theorem discardPlan_wscFits (s : State) (hP : Wsc.Fits s.wsc) : Wsc.Fits (discardPlan s).wsc := by
  unfold discardPlan; (try dsimp only); (repeat' split) <;> first | (with_reducible exact hP) | (simp +contextual (maxDischargeDepth := 12) [hP]; done)

@[simp] theorem holdPlan_wscFits (p : Plan) (s : State) (hP : Wsc.Fits s.wsc) : Wsc.Fits (holdPlan p s).wsc := by
  unfold holdPlan; (try dsimp only); (repeat' split) <;> first | (with_reducible exact hP) | (simp +contextual (maxDischargeDepth := 12) [hP]; done)

@[simp] theorem refusePlan_wscFits (s : State) (hP : Wsc.Fits s.wsc) : Wsc.Fits (refusePlan s).wsc := by
  unfold refusePlan; (try dsimp only); (repeat' split) <;> first | (with_reducible exact hP) | (simp +contextual (maxDischargeDepth := 12) [hP]; done)

@[simp] theorem tryComplete_wscFits (s : State) (hP : Wsc.Fits s.wsc) : Wsc.Fits (tryComplete s).wsc := by
  unfold tryComplete; (try dsimp only); (repeat' split) <;> first | (with_reducible exact hP) | (simp +contextual (maxDischargeDepth := 12) [hP]; done)

@[simp] theorem stagePlan_wscFits (id off : Nat) (bs : List Byte) (s : State) (hP : Wsc.Fits s.wsc) : Wsc.Fits (stagePlan id off bs s).wsc := by
  unfold stagePlan; (try dsimp only); (repeat' split) <;> first | (with_reducible exact hP) | (simp +contextual (maxDischargeDepth := 12) [hP]; done)

@[simp] theorem countIgnored_wscFits (s : State) (hP : Wsc.Fits s.wsc) : Wsc.Fits (countIgnored s).wsc := by
  unfold countIgnored; (try dsimp only); (repeat' split) <;> first | (with_reducible exact hP) | (simp +contextual (maxDischargeDepth := 12) [hP]; done)

@[simp] theorem handlePlan_wscFits (id off : Nat) (bs : List Byte) (s : State) (hP : Wsc.Fits s.wsc) : Wsc.Fits (handlePlan id off bs s).wsc := by
  unfold handlePlan; (try dsimp only); (repeat' split) <;> first | (with_reducible exact hP) | (simp +contextual (maxDischargeDepth := 12) [hP]; done)

@[simp] theorem compareTarget_wscFits (s : State) (hP : Wsc.Fits s.wsc) : Wsc.Fits (compareTarget s).wsc := by
  unfold compareTarget; (try dsimp only); (repeat' split) <;> first | (with_reducible exact hP) | (simp +contextual (maxDischargeDepth := 12) [hP]; done)

@[simp] theorem endAbsent_wscFits (s : State) (hP : Wsc.Fits s.wsc) : Wsc.Fits (endAbsent s).wsc := by
  unfold endAbsent; (try dsimp only); (repeat' split) <;> first | (with_reducible exact hP) | (simp +contextual (maxDischargeDepth := 12) [hP]; done)

@[simp] theorem endResync_wscFits (s : State) (hP : Wsc.Fits s.wsc) : Wsc.Fits (endResync s).wsc := by
  unfold endResync; (try dsimp only); (repeat' split) <;> first | (with_reducible exact hP) | (simp +contextual (maxDischargeDepth := 12) [hP]; done)

@[simp] theorem enterListen_wscFits (silenced : Bool) (s : State) (hP : Wsc.Fits s.wsc) : Wsc.Fits (enterListen silenced s).wsc := by
  unfold enterListen; (try dsimp only); (repeat' split) <;> first | (with_reducible exact hP) | (simp +contextual (maxDischargeDepth := 12) [hP]; done)

@[simp] theorem leaveListen_wscFits (s : State) (hP : Wsc.Fits s.wsc) : Wsc.Fits (leaveListen s).wsc := by
  unfold leaveListen; (try dsimp only); (repeat' split) <;> first | (with_reducible exact hP) | (simp +contextual (maxDischargeDepth := 12) [hP]; done)

@[simp] theorem loseFeed_wscFits (s : State) (hP : Wsc.Fits s.wsc) : Wsc.Fits (loseFeed s).wsc := by
  unfold loseFeed; (try dsimp only); (repeat' split) <;> first | (with_reducible exact hP) | (simp +contextual (maxDischargeDepth := 12) [hP]; done)

@[simp] theorem loseUnload_wscFits (s : State) (hP : Wsc.Fits s.wsc) : Wsc.Fits (loseUnload s).wsc := by
  unfold loseUnload; (try dsimp only); (repeat' split) <;> first | (with_reducible exact hP) | (simp +contextual (maxDischargeDepth := 12) [hP]; done)

@[simp] theorem loseDuties_wscFits (s : State) (hP : Wsc.Fits s.wsc) : Wsc.Fits (loseDuties s).wsc := by
  unfold loseDuties; (try dsimp only); (repeat' split) <;> first | (with_reducible exact hP) | (simp +contextual (maxDischargeDepth := 12) [hP]; done)

@[simp] theorem dropToJoining_wscFits (s : State) (hP : Wsc.Fits s.wsc) : Wsc.Fits (dropToJoining s).wsc := by
  unfold dropToJoining; (try dsimp only); (repeat' split) <;> first | (with_reducible exact hP) | (simp +contextual (maxDischargeDepth := 12) [hP]; done)

@[simp] theorem planConflict_wscFits (f : Frame) (s : State) (hP : Wsc.Fits s.wsc) : Wsc.Fits (planConflict f s).wsc := by
  unfold planConflict; (try dsimp only); (repeat' split) <;> first | (with_reducible exact hP) | (simp +contextual (maxDischargeDepth := 12) [hP]; done)

@[simp] theorem beginRestartCheck_wscFits (s : State) (hP : Wsc.Fits s.wsc) : Wsc.Fits (beginRestartCheck s).wsc := by
  unfold beginRestartCheck; simp [hP]

@[simp] theorem restProgress_wscFits (s : State) (hP : Wsc.Fits s.wsc) : Wsc.Fits (restProgress s).wsc := by
  unfold restProgress; (try dsimp only); (repeat' split) <;> first | (with_reducible exact hP) | (simp +contextual (maxDischargeDepth := 12) [hP]; done)

@[simp] theorem beginRestart_wscFits (s : State) (hP : Wsc.Fits s.wsc) : Wsc.Fits (beginRestart s).wsc := by
  unfold beginRestart; (try dsimp only); (repeat' split) <;> first | (with_reducible exact hP) | (simp +contextual (maxDischargeDepth := 12) [hP]; done)

@[simp] theorem restandAlarms_wscFits (s : State) (hP : Wsc.Fits s.wsc) : Wsc.Fits (restandAlarms s).wsc := by
  unfold restandAlarms; (try dsimp only); (repeat' split) <;> first | (with_reducible exact hP) | (simp +contextual (maxDischargeDepth := 12) [hP]; done)

@[simp] theorem endSelfCheck_wscFits (failed : List CheckItem) (s : State) (hP : Wsc.Fits s.wsc) : Wsc.Fits (endSelfCheck failed s).wsc := by
  unfold endSelfCheck; (try dsimp only); (repeat' split) <;> first | (with_reducible exact hP) | (simp +contextual (maxDischargeDepth := 12) [hP]; done)

@[simp] theorem dropBuilt_wscFits (s : State) (n : Note) (hP : Wsc.Fits s.wsc) : Wsc.Fits (dropBuilt s n).wsc := by
  unfold dropBuilt; (try dsimp only); (repeat' split) <;> first | (with_reducible exact hP) | (simp +contextual (maxDischargeDepth := 12) [hP]; done)

@[simp] theorem buildFrame_wscFits (s : State) (hP : Wsc.Fits s.wsc) : Wsc.Fits (buildFrame s).wsc := by
  unfold buildFrame; (try dsimp only); (repeat' split) <;> first | (with_reducible exact hP) | (simp +contextual (maxDischargeDepth := 12) [hP]; done)

@[simp] theorem sendCold_wscFits (s : State) (hP : Wsc.Fits s.wsc) : Wsc.Fits (sendCold s).wsc := by
  unfold sendCold; (try dsimp only); (repeat' split) <;> first | (with_reducible exact hP) | (simp +contextual (maxDischargeDepth := 12) [hP]; done)

@[simp] theorem judgeAbsent_wscFits (s : State) (hP : Wsc.Fits s.wsc) : Wsc.Fits (judgeAbsent s).wsc := by
  unfold judgeAbsent; (try dsimp only); (repeat' split) <;> first | (with_reducible exact hP) | (simp +contextual (maxDischargeDepth := 12) [hP]; done)

@[simp] theorem countSilence_wscFits (k : Nat) (s : State) (hP : Wsc.Fits s.wsc) : Wsc.Fits (countSilence k s).wsc := by
  unfold countSilence; (try dsimp only); (repeat' split) <;> first | (with_reducible exact hP) | (simp +contextual (maxDischargeDepth := 12) [hP]; done)

@[simp] theorem failTransmit_wscFits (s : State) (hP : Wsc.Fits s.wsc) : Wsc.Fits (failTransmit s).wsc := by
  unfold failTransmit; (try dsimp only); (repeat' split) <;> first | (with_reducible exact hP) | (simp +contextual (maxDischargeDepth := 12) [hP]; done)

@[simp] theorem passOwn_wscFits (k : Nat) (round : Half) (s : State) (hP : Wsc.Fits s.wsc) : Wsc.Fits (passOwn k round s).wsc := by
  unfold passOwn; (try dsimp only); (repeat' split) <;> first | (with_reducible exact hP) | (simp +contextual (maxDischargeDepth := 12) [hP]; done)

@[simp] theorem voteUnseen_wscFits (k : Nat) (s : State) (hP : Wsc.Fits s.wsc) : Wsc.Fits (voteUnseen k s).wsc := by
  unfold voteUnseen; (try dsimp only); (repeat' split) <;> first | (with_reducible exact hP) | (simp +contextual (maxDischargeDepth := 12) [hP]; done)

@[simp] theorem endSlot_wscFits (k : Nat) (round : Half) (gath res : Bool) (s : State) (hP : Wsc.Fits s.wsc) : Wsc.Fits (endSlot k round gath res s).wsc := by
  unfold endSlot; (try dsimp only); (repeat' split) <;> first | (with_reducible exact hP) | (simp +contextual (maxDischargeDepth := 12) [hP]; done)

@[simp] theorem endSilent_wscFits (s : State) (hP : Wsc.Fits s.wsc) : Wsc.Fits (endSilent s).wsc := by
  unfold endSilent; (try dsimp only); (repeat' split) <;> first | (with_reducible exact hP) | (simp +contextual (maxDischargeDepth := 12) [hP]; done)

@[simp] theorem silentSlot_wscFits (s : State) (hP : Wsc.Fits s.wsc) : Wsc.Fits (silentSlot s).wsc := by
  unfold silentSlot; (try dsimp only); (repeat' split) <;> first | (with_reducible exact hP) | (simp +contextual (maxDischargeDepth := 12) [hP]; done)

@[simp] theorem silentSlots_wscFits (n : Nat) (s : State) (hP : Wsc.Fits s.wsc) : Wsc.Fits (silentSlots n s).wsc := by
  induction n generalizing s with
  | zero => simpa [silentSlots] using hP
  | succ n ih => exact ih _ (by simp (maxDischargeDepth := 12) [hP])

@[simp] theorem dropVoteRec_wscFits (passes : Bool) (s : State) (hP : Wsc.Fits s.wsc) : Wsc.Fits (dropVoteRec passes s).wsc := by
  unfold dropVoteRec; (try dsimp only); (repeat' split) <;> first | (with_reducible exact hP) | (simp +contextual (maxDischargeDepth := 12) [hP]; done)

@[simp] theorem correctSlot_wscFits (f : Frame) (s : State) (hP : Wsc.Fits s.wsc) : Wsc.Fits (correctSlot f s).wsc := by
  unfold correctSlot; (try dsimp only); (repeat' split) <;> first | (with_reducible exact hP) | (simp +contextual (maxDischargeDepth := 12) [hP]; done)

@[simp] theorem hearRoster_wscFits (f : Frame) (s : State) (hP : Wsc.Fits s.wsc) : Wsc.Fits (hearRoster f s).wsc := by
  unfold hearRoster; (try dsimp only); (repeat' split) <;> first | (with_reducible exact hP) | (simp +contextual (maxDischargeDepth := 12) [hP]; done)

@[simp] theorem handAddressed_wscFits (from_ : Nat) (s : State) (n : Note) (hP : Wsc.Fits s.wsc) : Wsc.Fits (handAddressed from_ s n).wsc := by
  unfold handAddressed; (try dsimp only); (repeat' split) <;> first | (with_reducible exact hP) | (simp +contextual (maxDischargeDepth := 12) [hP]; done)

@[simp] theorem handPlan_wscFits (s : State) (n : Note) (hP : Wsc.Fits s.wsc) : Wsc.Fits (handPlan s n).wsc := by
  unfold handPlan; (try dsimp only); (repeat' split) <;> first | (with_reducible exact hP) | (simp +contextual (maxDischargeDepth := 12) [hP]; done)

@[simp] theorem handPlans_wscFits (f : Frame) (s : State) (hP : Wsc.Fits s.wsc) : Wsc.Fits (handPlans f s).wsc := by
  unfold handPlans; (try dsimp only); (repeat' split) <;> first | (with_reducible exact hP) | (simp +contextual (maxDischargeDepth := 12) [hP]; done)

@[simp] theorem handleFrame_wscFits (f : Frame) (s : State) (hP : Wsc.Fits s.wsc) : Wsc.Fits (handleFrame f s).wsc := by
  unfold handleFrame; (try dsimp only); (repeat' split) <;> first | (with_reducible exact hP) | (simp +contextual (maxDischargeDepth := 12) [hP]; done)

@[simp] theorem afterFrame_wscFits (f : Frame) (own gath res : Bool) (s : State) (hP : Wsc.Fits s.wsc) : Wsc.Fits (afterFrame f own gath res s).wsc := by
  unfold afterFrame; (try dsimp only); (repeat' split) <;> first | (with_reducible exact hP) | (simp +contextual (maxDischargeDepth := 12) [hP]; done)

@[simp] theorem hearDuplicate_wscFits (s : State) (hP : Wsc.Fits s.wsc) : Wsc.Fits (hearDuplicate s).wsc := by
  unfold hearDuplicate; (try dsimp only); (repeat' split) <;> first | (with_reducible exact hP) | (simp +contextual (maxDischargeDepth := 12) [hP]; done)

@[simp] theorem silencedFrame_wscFits (f : Frame) (s : State) (hP : Wsc.Fits s.wsc) : Wsc.Fits (silencedFrame f s).wsc := by
  unfold silencedFrame; dsimp only
  refine foldl_wFits _ ?_ _ _ ?_
  · intro s n h; split <;> simp [h]
  · split <;> simp (maxDischargeDepth := 12) [hP]

@[simp] theorem readableFrame_wscFits (f : Frame) (own : Bool) (s : State) (hP : Wsc.Fits s.wsc) : Wsc.Fits (readableFrame f own s).wsc := by
  unfold readableFrame; (try dsimp only); (repeat' split) <;> first | (with_reducible exact hP) | (simp +contextual (maxDischargeDepth := 12) [hP]; done)

@[simp] theorem unreadableFrame_wscFits (mine : Bool) (s : State) (hP : Wsc.Fits s.wsc) : Wsc.Fits (unreadableFrame mine s).wsc := by
  unfold unreadableFrame; (try dsimp only); (repeat' split) <;> first | (with_reducible exact hP) | (simp +contextual (maxDischargeDepth := 12) [hP]; done)

@[simp] theorem idleLine_wscFits (s : State) (hP : Wsc.Fits s.wsc) : Wsc.Fits (idleLine s).wsc := by
  unfold idleLine; (try dsimp only); (repeat' split) <;> first | (with_reducible exact hP) | (simp +contextual (maxDischargeDepth := 12) [hP]; done)

@[simp] theorem redraw_wscFits (s : State) (hP : Wsc.Fits s.wsc) : Wsc.Fits (redraw s).wsc := by
  unfold redraw; (try dsimp only); (repeat' split) <;> first | (with_reducible exact hP) | (simp +contextual (maxDischargeDepth := 12) [hP]; done)

@[simp] theorem finish_wscFits (s : State) (hP : Wsc.Fits s.wsc) : Wsc.Fits (finish s).wsc := by
  unfold finish; (try dsimp only); (repeat' split) <;> first | (with_reducible exact hP) | (simp +contextual (maxDischargeDepth := 12) [hP]; done)

@[simp] theorem conclude_wscFits (always : Bool) (old : State) (s : State) (hP : Wsc.Fits s.wsc) : Wsc.Fits (conclude always old s).wsc := by
  unfold conclude; (try dsimp only); (repeat' split) <;> first | (with_reducible exact hP) | (simp +contextual (maxDischargeDepth := 12) [hP]; done)

@[simp] theorem moveCursor_wscFits (d : Arrow) (s : State) (hP : Wsc.Fits s.wsc) : Wsc.Fits (moveCursor d s).wsc := by
  unfold moveCursor; (try dsimp only); (repeat' split) <;> first | (with_reducible exact hP) | (simp +contextual (maxDischargeDepth := 12) [hP]; done)

@[simp] theorem recoverIndex_wscFits (s : State) (hP : Wsc.Fits s.wsc) : Wsc.Fits (recoverIndex s).wsc := by
  unfold recoverIndex; (try dsimp only); (repeat' split) <;> first | (with_reducible exact hP) | (simp +contextual (maxDischargeDepth := 12) [hP]; done)

@[simp] theorem handClear_wscFits (s : State) (hP : Wsc.Fits s.wsc) : Wsc.Fits (handClear s).wsc := by
  unfold handClear; (try dsimp only); (repeat' split) <;> first | (with_reducible exact hP) | (simp +contextual (maxDischargeDepth := 12) [hP]; done)

@[simp] theorem placeHoldOff_wscFits (s : State) (c : Nat) (hP : Wsc.Fits s.wsc) : Wsc.Fits (placeHoldOff s c).wsc := by
  unfold placeHoldOff; (try dsimp only); (repeat' split) <;> first | (with_reducible exact hP) | (simp +contextual (maxDischargeDepth := 12) [hP]; done)

@[simp] theorem handHoldRel_wscFits (s : State) (hP : Wsc.Fits s.wsc) : Wsc.Fits (handHoldRel s).wsc := by
  unfold handHoldRel; (try dsimp only); (repeat' split) <;> first | (with_reducible exact hP) | (simp +contextual (maxDischargeDepth := 12) [hP]; done)

@[simp] theorem handSkip_wscFits (s : State) (hP : Wsc.Fits s.wsc) : Wsc.Fits (handSkip s).wsc := by
  unfold handSkip; (try dsimp only); (repeat' split) <;> first | (with_reducible exact hP) | (simp +contextual (maxDischargeDepth := 12) [hP]; done)

@[simp] theorem sendRow_wscFits (s : State) (hP : Wsc.Fits s.wsc) : Wsc.Fits (sendRow s).wsc := by
  unfold sendRow; (try dsimp only); (repeat' split) <;> first | (with_reducible exact hP) | (simp +contextual (maxDischargeDepth := 12) [hP]; done)

@[simp] theorem rowSent_wscFits (s : State) (hP : Wsc.Fits s.wsc) : Wsc.Fits (rowSent s).wsc := by
  unfold rowSent; (try dsimp only); (repeat' split) <;> first | (with_reducible exact hP) | (simp +contextual (maxDischargeDepth := 12) [hP]; done)

@[simp] theorem recordDone_wscFits (s : State) (hP : Wsc.Fits s.wsc) : Wsc.Fits (recordDone s).wsc := by
  unfold recordDone; (try dsimp only); (repeat' split) <;> first | (with_reducible exact hP) | (simp +contextual (maxDischargeDepth := 12) [hP]; done)

@[simp] theorem recordFailed_wscFits (s : State) (hP : Wsc.Fits s.wsc) : Wsc.Fits (recordFailed s).wsc := by
  unfold recordFailed; (try dsimp only); (repeat' split) <;> first | (with_reducible exact hP) | (simp +contextual (maxDischargeDepth := 12) [hP]; done)

@[simp] theorem headerDone_wscFits (s : State) (hP : Wsc.Fits s.wsc) : Wsc.Fits (headerDone s).wsc := by
  unfold headerDone; (try dsimp only); (repeat' split) <;> first | (with_reducible exact hP) | (simp +contextual (maxDischargeDepth := 12) [hP]; done)

@[simp] theorem headerFailed_wscFits (s : State) (hP : Wsc.Fits s.wsc) : Wsc.Fits (headerFailed s).wsc := by
  unfold headerFailed; (try dsimp only); (repeat' split) <;> first | (with_reducible exact hP) | (simp +contextual (maxDischargeDepth := 12) [hP]; done)

@[simp] theorem eraseFinished_wscFits (s : State) (hP : Wsc.Fits s.wsc) : Wsc.Fits (eraseFinished s).wsc := by
  unfold eraseFinished; (try dsimp only); (repeat' split) <;> first | (with_reducible exact hP) | (simp +contextual (maxDischargeDepth := 12) [hP]; done)

@[simp] theorem eraseFailed_wscFits (s : State) (hP : Wsc.Fits s.wsc) : Wsc.Fits (eraseFailed s).wsc := by
  unfold eraseFailed; (try dsimp only); (repeat' split) <;> first | (with_reducible exact hP) | (simp +contextual (maxDischargeDepth := 12) [hP]; done)

@[simp] theorem badMarkEnded_wscFits (completed : Bool) (s : State) (hP : Wsc.Fits s.wsc) : Wsc.Fits (badMarkEnded completed s).wsc := by
  unfold badMarkEnded; (try dsimp only); (repeat' split) <;> first | (with_reducible exact hP) | (simp +contextual (maxDischargeDepth := 12) [hP]; done)

@[simp] theorem retracted_wscFits (readBack : Byte) (s : State) (hP : Wsc.Fits s.wsc) : Wsc.Fits (retracted readBack s).wsc := by
  unfold retracted; (try dsimp only); (repeat' split) <;> first | (with_reducible exact hP) | (simp +contextual (maxDischargeDepth := 12) [hP]; done)

@[simp] theorem recordRead_wscFits (s : State) (hP : Wsc.Fits s.wsc) : Wsc.Fits (recordRead s).wsc := by
  unfold recordRead; (try dsimp only); (repeat' split) <;> first | (with_reducible exact hP) | (simp +contextual (maxDischargeDepth := 12) [hP]; done)

@[simp] theorem endMount_wscFits (answered : Bool) (s : State) (hP : Wsc.Fits s.wsc) : Wsc.Fits (endMount answered s).wsc := by
  unfold endMount; (try dsimp only); (repeat' split) <;> first | (with_reducible exact hP) | (simp +contextual (maxDischargeDepth := 12) [hP]; done)

@[simp] theorem afterSlot_wscFits (s : State) (hP : Wsc.Fits s.wsc) : Wsc.Fits (afterSlot s).wsc := by
  unfold afterSlot; (try dsimp only); (repeat' split) <;> first | (with_reducible exact hP) | (simp +contextual (maxDischargeDepth := 12) [hP]; done)

@[simp] theorem quietExpired_wscFits (s : State) (hP : Wsc.Fits s.wsc) : Wsc.Fits (quietExpired s).wsc := by
  unfold quietExpired; (try dsimp only); (repeat' split) <;> first | (with_reducible exact hP) | (simp +contextual (maxDischargeDepth := 12) [hP]; done)

@[simp] theorem unreadableEnd_wscFits (s : State) (hP : Wsc.Fits s.wsc) : Wsc.Fits (unreadableEnd s).wsc := by
  unfold unreadableEnd; (try dsimp only); (repeat' split) <;> first | (with_reducible exact hP) | (simp +contextual (maxDischargeDepth := 12) [hP]; done)

@[simp] theorem frameEnd_wscFits (chars : List Byte) (s : State) (hP : Wsc.Fits s.wsc) : Wsc.Fits (frameEnd chars s).wsc := by
  unfold frameEnd; (try dsimp only); (repeat' split) <;> first | (with_reducible exact hP) | (simp +contextual (maxDischargeDepth := 12) [hP]; done)

@[simp] theorem badFrameEnd_wscFits (s : State) (hP : Wsc.Fits s.wsc) : Wsc.Fits (badFrameEnd s).wsc := by
  unfold badFrameEnd; (try dsimp only); (repeat' split) <;> first | (with_reducible exact hP) | (simp +contextual (maxDischargeDepth := 12) [hP]; done)

@[simp] theorem slotEnds_wscFits (lv : Levels) (s : State) (hP : Wsc.Fits s.wsc) : Wsc.Fits (slotEnds lv s).wsc := by
  unfold slotEnds; (try dsimp only); (repeat' split) <;> first | (with_reducible exact hP) | (simp +contextual (maxDischargeDepth := 12) [hP]; done)

@[simp] theorem unsend_wscFits (s : State) (hP : Wsc.Fits s.wsc) : Wsc.Fits (unsend s).wsc := by
  unfold unsend; (try dsimp only); (repeat' split) <;> first | (with_reducible exact hP) | (simp +contextual (maxDischargeDepth := 12) [hP]; done)

@[simp] theorem missDeadline_wscFits (s : State) (hP : Wsc.Fits s.wsc) : Wsc.Fits (missDeadline s).wsc := by
  unfold missDeadline; (try dsimp only); (repeat' split) <;> first | (with_reducible exact hP) | (simp +contextual (maxDischargeDepth := 12) [hP]; done)

@[simp] theorem coldMismatch_wscFits (s : State) (hP : Wsc.Fits s.wsc) : Wsc.Fits (coldMismatch s).wsc := by
  unfold coldMismatch; (try dsimp only); (repeat' split) <;> first | (with_reducible exact hP) | (simp +contextual (maxDischargeDepth := 12) [hP]; done)

@[simp] theorem mismatch_wscFits (s : State) (hP : Wsc.Fits s.wsc) : Wsc.Fits (mismatch s).wsc := by
  unfold mismatch; (try dsimp only); (repeat' split) <;> first | (with_reducible exact hP) | (simp +contextual (maxDischargeDepth := 12) [hP]; done)

@[simp] theorem taktExpired_wscFits (s : State) (hP : Wsc.Fits s.wsc) : Wsc.Fits (taktExpired s).wsc := by
  unfold taktExpired; (try dsimp only); (repeat' split) <;> first | (with_reducible exact hP) | (simp +contextual (maxDischargeDepth := 12) [hP]; done)

@[simp] theorem clampWaitExpired_wscFits (s : State) (hP : Wsc.Fits s.wsc) : Wsc.Fits (clampWaitExpired s).wsc := by
  unfold clampWaitExpired; (try dsimp only); (repeat' split) <;> first | (with_reducible exact hP) | (simp +contextual (maxDischargeDepth := 12) [hP]; done)

@[simp] theorem headAlerted_wscFits (a : AlertKind) (s : State) (hP : Wsc.Fits s.wsc) : Wsc.Fits (headAlerted a s).wsc := by
  unfold headAlerted; (try dsimp only); (repeat' split) <;> first | (with_reducible exact hP) | (simp +contextual (maxDischargeDepth := 12) [hP]; done)

@[simp] theorem takeByte_wscFits (is : Byte → Bool) (act : Byte → Ocu → Ocu) (s : State) (hP : Wsc.Fits s.wsc) :
    Wsc.Fits (takeByte is act s).wsc := hP

@[simp] theorem takeKey_wscFits (c : Byte) (hand : State → State) (hA : ∀ s : State, Wsc.Fits s.wsc → Wsc.Fits (hand s).wsc) (s : State)
    (hP : Wsc.Fits s.wsc) : Wsc.Fits (takeKey c hand s).wsc := by
  unfold takeKey
  (repeat' split) <;> first | exact hP | exact hA _ hP

@[simp] theorem clampOpened_wscFits (s : State) (hP : Wsc.Fits s.wsc) : Wsc.Fits (clampOpened s).wsc := by
  unfold clampOpened; (try dsimp only); (repeat' split) <;> first | (with_reducible exact hP) | (simp +contextual (maxDischargeDepth := 12) [hP]; done)

@[simp] theorem openLimit_wscFits (s : State) (hP : Wsc.Fits s.wsc) : Wsc.Fits (openLimit s).wsc := by
  unfold openLimit; (try dsimp only); (repeat' split) <;> first | (with_reducible exact hP) | (simp +contextual (maxDischargeDepth := 12) [hP]; done)

@[simp] theorem beamDone_wscFits (s : State) (hP : Wsc.Fits s.wsc) : Wsc.Fits (beamDone s).wsc := by
  unfold beamDone; (try dsimp only); (repeat' split) <;> first | (with_reducible exact hP) | (simp +contextual (maxDischargeDepth := 12) [hP]; done)

@[simp] theorem removeMagazine_wscFits (m : MagName) (s : State) (hP : Wsc.Fits s.wsc) : Wsc.Fits (removeMagazine m s).wsc := by
  unfold removeMagazine; (try dsimp only); (repeat' split) <;> first | (with_reducible exact hP) | (simp +contextual (maxDischargeDepth := 12) [hP]; done)

@[simp] theorem startPush_wscFits (p : PusherName) (s : State) (hP : Wsc.Fits s.wsc) : Wsc.Fits (startPush p s).wsc := by
  unfold startPush; (try dsimp only); (repeat' split) <;> first | (with_reducible exact hP) | (simp +contextual (maxDischargeDepth := 12) [hP]; done)

@[simp] theorem pushExpired_wscFits (p : PusherName) (s : State) (hP : Wsc.Fits s.wsc) : Wsc.Fits (pushExpired p s).wsc := by
  unfold pushExpired; (try dsimp only); (repeat' split) <;> first | (with_reducible exact hP) | (simp +contextual (maxDischargeDepth := 12) [hP]; done)

@[simp] theorem clampClosed_wscFits (s : State) (hP : Wsc.Fits s.wsc) : Wsc.Fits (clampClosed s).wsc := by
  unfold clampClosed; (try dsimp only); (repeat' split) <;> first | (with_reducible exact hP) | (simp +contextual (maxDischargeDepth := 12) [hP]; done)

@[simp] theorem beamHomed_wscFits (s : State) (hP : Wsc.Fits s.wsc) : Wsc.Fits (beamHomed s).wsc := by
  unfold beamHomed; (try dsimp only); (repeat' split) <;> first | (with_reducible exact hP) | (simp +contextual (maxDischargeDepth := 12) [hP]; done)

@[simp] theorem insertMagazine_wscFits (m : MagName) (s : State) (hP : Wsc.Fits s.wsc) : Wsc.Fits (insertMagazine m s).wsc := by
  unfold insertMagazine; (try dsimp only); (repeat' split) <;> first | (with_reducible exact hP) | (simp +contextual (maxDischargeDepth := 12) [hP]; done)

@[simp] theorem viewUp_wscFits (s : State) (hP : Wsc.Fits s.wsc) : Wsc.Fits (viewUp s).wsc := by
  unfold viewUp; (try dsimp only); (repeat' split) <;> first | (with_reducible exact hP) | (simp +contextual (maxDischargeDepth := 12) [hP]; done)

@[simp] theorem viewDown_wscFits (s : State) (hP : Wsc.Fits s.wsc) : Wsc.Fits (viewDown s).wsc := by
  unfold viewDown; (try dsimp only); (repeat' split) <;> first | (with_reducible exact hP) | (simp +contextual (maxDischargeDepth := 12) [hP]; done)

@[simp] theorem poweredOn_wscFits (x : Straps) (lv : Levels) (m : List Host.Cell) (n : Nat) (q : List Instr) :
    Wsc.Fits (State.poweredOn x lv m n q).wsc := Wsc.Fits_reset

end Sys2Proof.Machine
end

