-- ==== Sys2Proof/Laws/ConsoleFits.lean ====
section
/-! SUPPORT. The console keeps to its sizes: one lemma an operation. -/

set_option linter.all false
namespace Sys2Proof.Machine

theorem mapFirst_length {α : Type} (f : α → Bool) (g : α → α) (l : List α) : (mapFirst f g l).length = l.length := by
  induction l with
  | nil => rfl
  | cons a l ih => unfold mapFirst; split <;> simp [ih]

theorem dropFirst_le {α : Type} (f : α → Bool) (l : List α) : (dropFirst f l).length ≤ l.length := by
  induction l with
  | nil => exact le_rfl
  | cons a l ih => unfold dropFirst; split <;> simp <;> omega

theorem dropFirst_lt {α : Type} (f : α → Bool) (l : List α) (h : l.any f = true) : (dropFirst f l).length < l.length := by
  induction l with
  | nil => simp at h
  | cons a l ih =>
    unfold dropFirst; split
    · simp
    · rename_i hf
      have : l.any f = true := by simpa [hf] using h
      simpa using ih this

@[simp] theorem Ocu.Fits_mk (o : Ocu) (h : o.Fits) (sc ch pr mc ov fa ua mi mo tr td em wr sr fm cp ci kd) :
    Ocu.Fits ⟨sc, ch, pr, mc, o.alarms, ov, fa, ua, mi, mo, o.textQ, tr, td, o.hist, o.line, o.col, em, wr, sr, fm, cp, ci, o.viewTop, o.keyQ, kd⟩ := h

theorem Ocu.Fits_alarms (o : Ocu) (h : o.Fits) (l) (hl : l.length ≤ Config.alarmEntries) (ov) : Ocu.Fits { o with alarms := l, overflow := ov } :=
  ⟨hl, h.2⟩

@[simp] theorem Ocu.Fits_raise (a i) (o : Ocu) (h : o.Fits) : (o.raise a i).Fits := by
  unfold Ocu.raise
  split
  · rename_i e he
    split
    · refine Ocu.Fits_alarms o h _ ?_ _
      have hm := List.find?_some he
      have := dropFirst_lt (·.code == a) o.alarms (List.any_eq_true.mpr ⟨e, List.mem_of_find?_eq_some he, hm⟩)
      have := h.1
      simp; omega
    · exact Ocu.Fits_alarms o h _ (by rw [mapFirst_length]; exact h.1) _
  · split
    · exact Ocu.Fits_alarms o h _ (by simp; omega) _
    · split
      · rename_i hA
        refine Ocu.Fits_alarms o h _ ?_ _
        have := dropFirst_lt (·.st == .acked) o.alarms hA
        have := h.1
        simp; omega
      · exact Ocu.Fits_mk o h ..

@[simp] theorem Ocu.Fits_settleAlarm (a) (o : Ocu) (h : o.Fits) : (o.settleAlarm a).Fits := by
  unfold Ocu.settleAlarm
  (repeat' split)
  · exact Ocu.Fits_alarms o h _ (by rw [mapFirst_length]; exact h.1) _
  · exact Ocu.Fits_alarms o h _ (le_trans (dropFirst_le _ _) h.1) _
  · exact h
  · exact h

@[simp] theorem Ocu.Fits_reset : Ocu.reset.Fits := by
  refine ⟨by simp [Ocu.reset], by simp [Ocu.reset], by simp [Ocu.reset], by simp [Ocu.reset], ?_, by decide, by decide, by decide⟩
  intro l hl; simp [Ocu.reset] at hl; simp [hl]

@[simp] theorem Ocu.Fits_restart (o : Ocu) : o.restart.Fits := Ocu.Fits_mk Ocu.reset Ocu.Fits_reset ..

@[simp] theorem Ocu.Fits_takeText (bs) (o : Ocu) (h : o.Fits) : (o.takeText bs).Fits := by
  obtain ⟨h1, h2, h3⟩ := h
  refine ⟨h1, ?_, h3⟩
  simp [Ocu.takeText]; omega

@[simp] theorem foldl_oFits {α : Type} (f : State → α → State) (h : ∀ s x, s.ocu.Fits → (f s x).ocu.Fits) (l : List α)
    (s : State) (hP : s.ocu.Fits) : (l.foldl f s).ocu.Fits := by
  induction l generalizing s with
  | nil => exact hP
  | cons a l ih => exact ih _ (h _ _ hP)

/-! The console's own operations. -/

@[simp] theorem Ocu.Fits_dropByte (o : Ocu) (h : o.Fits) : o.dropByte.Fits := by
  obtain ⟨h1, h2, h3⟩ := h
  refine ⟨h1, ?_, h3⟩
  simp only [Ocu.dropByte, List.length_drop]; omega

@[simp] theorem Ocu.Fits_follow (o : Ocu) (h : o.Fits) : o.follow.Fits := by
  obtain ⟨h1, h2, h3, h4, h5, h6, h7, h8⟩ := h
  refine ⟨h1, h2, h3, h4, h5, h6, h7, ?_⟩
  have : o.line < 32 := h6
  simp only [Ocu.follow]; omega

theorem blankRow_length : blankRow.length = Config.screenCols := by simp [blankRow]

@[simp] theorem Ocu.Fits_newLine (o : Ocu) (h : o.Fits) : o.newLine.Fits := by
  obtain ⟨h1, h2, h3, h4, h5, h6, h7, h8⟩ := h
  unfold Ocu.newLine
  (repeat' split)
  · exact ⟨h1, h2, h3, h4, h5, h6, h7, h8⟩
  · rename_i hl
    refine ⟨h1, h2, h3, h4, h5, ?_, Nat.zero_le _, h8⟩
    show o.line + 1 < 32; omega
  · refine ⟨h1, h2, h3, ?_, ?_, h6, Nat.zero_le _, h8⟩
    · have : o.hist.length = 32 := h4
      simp [Config.historyLines, this]
    · intro l hl
      rcases List.mem_append.mp hl with hl | hl
      · exact h5 l (List.mem_of_mem_drop hl)
      · rw [List.mem_singleton.mp hl]; exact blankRow_length
  · exact ⟨h1, h2, h3, h4, h5, h6, h7, h8⟩

theorem modify_fits {l : List (List Cell)} (i : Nat) (f : List Cell → List Cell)
    (hf : ∀ r, r.length = Config.screenCols → (f r).length = Config.screenCols)
    (h : ∀ r ∈ l, r.length = Config.screenCols) : ∀ r ∈ l.modify i f, r.length = Config.screenCols := by
  intro r hr
  rw [List.mem_iff_getElem?] at hr
  obtain ⟨k, hk⟩ := hr
  rw [List.getElem?_modify] at hk
  cases hx : l[k]? with
  | none => rw [hx] at hk; simp at hk
  | some x =>
    have hm := h x (List.mem_of_getElem? hx)
    rw [hx] at hk
    split at hk
    · simp at hk; rw [← hk]; exact hf x hm
    · simp at hk; rw [← hk]; exact hm

@[simp] theorem Ocu.Fits_print (b) (o : Ocu) (h : o.Fits) : (o.print b).Fits := by
  unfold Ocu.print
  split
  · exact h
  · rename_i hc
    obtain ⟨h1, h2, h3, h4, h5, h6, h7, h8⟩ := h
    have hcol : o.col ≤ 63 := by simp at hc; omega
    have key : Ocu.Fits { o with hist := o.hist.modify o.line (fun l => l.set o.col ⟨b, o.emph⟩), col := o.col + 1 } :=
      ⟨h1, h2, h3, by simpa using h4, modify_fits _ _ (fun r hr => by simpa using hr) h5, h6, by show o.col + 1 ≤ 64; omega, h8⟩
    dsimp only
    split
    · exact Ocu.Fits_newLine _ key
    · exact key

@[simp] theorem Ocu.Fits_home (o : Ocu) (h : o.Fits) : o.home.Fits := by
  obtain ⟨h1, h2, h3, h4, h5, h6, h7, h8⟩ := h
  exact ⟨h1, h2, h3, h4, h5, by show 0 < 32; omega, Nat.zero_le _, h8⟩

@[simp] theorem Ocu.Fits_clearHist (o : Ocu) (h : o.Fits) : o.clearHist.Fits := by
  obtain ⟨h1, h2, h3, h4, h5, h6, h7, h8⟩ := h
  refine ⟨h1, h2, h3, by simp [Ocu.clearHist], ?_, by show 0 < 32; omega, Nat.zero_le _, Nat.zero_le _⟩
  intro l hl
  rw [List.eq_of_mem_replicate hl]; exact blankRow_length

@[simp] theorem Ocu.Fits_clearLine (o : Ocu) (h : o.Fits) : o.clearLine.Fits := by
  obtain ⟨h1, h2, h3, h4, h5, h6, h7, h8⟩ := h
  refine ⟨h1, h2, h3, by simpa [Ocu.clearLine] using h4, modify_fits _ _ ?_ h5, h6, h7, h8⟩
  intro r hr
  have : o.col ≤ 64 := h7
  have : r.length = 64 := hr
  simp [Config.screenCols]; omega

@[simp] theorem Ocu.Fits_back (o : Ocu) (h : o.Fits) : o.back.Fits :=
  ⟨h.1, h.2.1, h.2.2.1, h.2.2.2.1, h.2.2.2.2.1, h.2.2.2.2.2.1, le_trans (Nat.sub_le _ _) h.2.2.2.2.2.2.1, h.2.2.2.2.2.2.2⟩
@[simp] theorem Ocu.Fits_countIgnored (o : Ocu) (h : o.Fits) : o.countIgnored.Fits := h

@[simp] theorem Ocu.Fits_setColumn (n) (o : Ocu) (h : o.Fits) : (o.setColumn n).Fits := by
  obtain ⟨h1, h2, h3, h4, h5, h6, h7, h8⟩ := h
  unfold Ocu.setColumn
  split
  · rename_i hn; exact ⟨h1, h2, h3, h4, h5, h6, by show n.toNat ≤ 64; omega, h8⟩
  · exact ⟨h1, h2, h3, h4, h5, h6, h7, h8⟩

@[simp] theorem Ocu.Fits_interpret (is act) (hA : ∀ b (o : Ocu), o.Fits → (act b o).Fits) (o : Ocu) (h : o.Fits) :
    (o.interpret is act).Fits := by
  unfold Ocu.interpret
  (repeat' split)
  · exact h
  · exact Ocu.Fits_follow _ (hA _ _ (Ocu.Fits_dropByte _ h))
  · exact h

@[simp] theorem Ocu.Fits_takeColumn (o : Ocu) (h : o.Fits) : o.takeColumn.Fits := by
  unfold Ocu.takeColumn
  split
  · simp (maxDischargeDepth := 12) [h]
  · simp (maxDischargeDepth := 12) [h]
  · exact Ocu.Fits_follow _ (Ocu.Fits_mk _ (Ocu.Fits_dropByte _ h) ..)
  · exact h

@[simp] theorem Ocu.Fits_press (c) (o : Ocu) (h : o.Fits) : (o.press c).Fits := by
  obtain ⟨h1, h2, h3, h4⟩ := h
  unfold Ocu.press
  split
  · rename_i hk
    refine ⟨h1, h2, ?_, h4⟩
    simp at hk
    show (o.keyQ ++ [c]).length ≤ _
    rw [List.length_append]; exact hk.2
  · exact ⟨h1, h2, h3, h4⟩

@[simp] theorem Ocu.Fits_ack (o : Ocu) (h : o.Fits) : o.ack.Fits := by
  unfold Ocu.ack
  (repeat' split)
  · exact h
  · exact Ocu.Fits_alarms _ h _ (by rw [mapFirst_length]; exact h.1) _
  · exact Ocu.Fits_alarms _ h _ (le_trans (dropFirst_le _ _) h.1) _

@[simp] theorem Ocu.Fits_keys (o : Ocu) (h : o.Fits) (k) (hk : k.length ≤ Config.keyPlaces) : Ocu.Fits { o with keyQ := k } := by
  obtain ⟨h1, h2, h3, h4⟩ := h
  exact ⟨h1, h2, hk, h4⟩

@[simp] theorem raise_ocuFits (a : Alarm) (s : State) (hP : Ocu.Fits s.ocu) : Ocu.Fits (raise a s).ocu := by
  unfold raise; (try dsimp only); (repeat' split) <;> first | (with_reducible exact hP) | (simp +contextual (maxDischargeDepth := 12) [hP]; done)

@[simp] theorem clearAlarm_ocuFits (a : Alarm) (s : State) (hP : Ocu.Fits s.ocu) : Ocu.Fits (clearAlarm a s).ocu := by
  unfold clearAlarm; (try dsimp only); (repeat' split) <;> first | (with_reducible exact hP) | (simp +contextual (maxDischargeDepth := 12) [hP]; done)

@[simp] theorem edgeAlarm_ocuFits (a : Alarm) (before after : Bool) (s : State) (hP : Ocu.Fits s.ocu) : Ocu.Fits (edgeAlarm a before after s).ocu := by
  unfold edgeAlarm; (try dsimp only); (repeat' split) <;> first | (with_reducible exact hP) | (simp +contextual (maxDischargeDepth := 12) [hP]; done)

@[simp] theorem place_ocuFits (by_ : Producer) (n : Note) (s : State) (hP : Ocu.Fits s.ocu) : Ocu.Fits (place by_ n s).ocu := by
  unfold place; (try dsimp only); (repeat' split) <;> first | (with_reducible exact hP) | (simp +contextual (maxDischargeDepth := 12) [hP]; done)

@[simp] theorem storeSettle_ocuFits (s : State) (hP : Ocu.Fits s.ocu) : Ocu.Fits (storeSettle s).ocu := by
  unfold storeSettle; (try dsimp only); (repeat' split) <;> first | (with_reducible exact hP) | (simp +contextual (maxDischargeDepth := 12) [hP]; done)

@[simp] theorem enterStoreFault_ocuFits (s : State) (hP : Ocu.Fits s.ocu) : Ocu.Fits (enterStoreFault s).ocu := by
  unfold enterStoreFault; (try dsimp only); (repeat' split) <;> first | (with_reducible exact hP) | (simp +contextual (maxDischargeDepth := 12) [hP]; done)

@[simp] theorem countFailure_ocuFits (s : State) (hP : Ocu.Fits s.ocu) : Ocu.Fits (countFailure s).ocu := by
  unfold countFailure; (try dsimp only); (repeat' split) <;> first | (with_reducible exact hP) | (simp +contextual (maxDischargeDepth := 12) [hP]; done)

@[simp] theorem handleFetch_ocuFits (requester : Nat) (f : FetchNote) (s : State) (hP : Ocu.Fits s.ocu) : Ocu.Fits (handleFetch requester f s).ocu := by
  unfold handleFetch; (try dsimp only); (repeat' split) <;> first | (with_reducible exact hP) | (simp +contextual (maxDischargeDepth := 12) [hP]; done)

@[simp] theorem handleCancel_ocuFits (tag : Nat) (s : State) (hP : Ocu.Fits s.ocu) : Ocu.Fits (handleCancel tag s).ocu := by
  unfold handleCancel; (try dsimp only); (repeat' split) <;> first | (with_reducible exact hP) | (simp +contextual (maxDischargeDepth := 12) [hP]; done)

@[simp] theorem handleRetract_ocuFits (requester tag n : Nat) (s : State) (hP : Ocu.Fits s.ocu) : Ocu.Fits (handleRetract requester tag n s).ocu := by
  unfold handleRetract; (try dsimp only); (repeat' split) <;> first | (with_reducible exact hP) | (simp +contextual (maxDischargeDepth := 12) [hP]; done)

@[simp] theorem dropClaims_ocuFits (f : OwnClaim → Bool) (s : State) (hP : Ocu.Fits s.ocu) : Ocu.Fits (dropClaims f s).ocu := by
  unfold dropClaims; (try dsimp only); (repeat' split) <;> first | (with_reducible exact hP) | (simp +contextual (maxDischargeDepth := 12) [hP]; done)

@[simp] theorem closeQueued_ocuFits (f : OwnClaim → Bool) (s : State) (hP : Ocu.Fits s.ocu) : Ocu.Fits (closeQueued f s).ocu := by
  unfold closeQueued; (try dsimp only); (repeat' split) <;> first | (with_reducible exact hP) | (simp +contextual (maxDischargeDepth := 12) [hP]; done)

@[simp] theorem selectOne_ocuFits (s : State) (hP : Ocu.Fits s.ocu) : Ocu.Fits (selectOne s).ocu := by
  unfold selectOne; (try dsimp only); (repeat' split) <;> first | (with_reducible exact hP) | (simp +contextual (maxDischargeDepth := 12) [hP]; done)

@[simp] theorem closeUntestable_ocuFits (s : State) (x : Nat × Nat × Nat) (hP : Ocu.Fits s.ocu) : Ocu.Fits (closeUntestable s x).ocu := by
  unfold closeUntestable; (try dsimp only); (repeat' split) <;> first | (with_reducible exact hP) | (simp +contextual (maxDischargeDepth := 12) [hP]; done)

@[simp] theorem select_ocuFits (s : State) (hP : Ocu.Fits s.ocu) : Ocu.Fits (select s).ocu := by
  unfold select; (try dsimp only); (repeat' split) <;> first | (with_reducible exact hP) | (simp +contextual (maxDischargeDepth := 12) [hP]; done)

@[simp] theorem skipOne_ocuFits (t : Table) (s : State) (k : SkipReq) (hP : Ocu.Fits s.ocu) : Ocu.Fits (skipOne t s k).ocu := by
  unfold skipOne; (try dsimp only); (repeat' split) <;> first | (with_reducible exact hP) | (simp +contextual (maxDischargeDepth := 12) [hP]; done)

@[simp] theorem endSkips_ocuFits (f : SkipReq → Bool) (s : State) (hP : Ocu.Fits s.ocu) : Ocu.Fits (endSkips f s).ocu := by
  unfold endSkips; (try dsimp only); (repeat' split) <;> first | (with_reducible exact hP) | (simp +contextual (maxDischargeDepth := 12) [hP]; done)

@[simp] theorem dropStray_ocuFits (s : State) (hP : Ocu.Fits s.ocu) : Ocu.Fits (dropStray s).ocu := by
  unfold dropStray; (try dsimp only); (repeat' split) <;> first | (with_reducible exact hP) | (simp +contextual (maxDischargeDepth := 12) [hP]; done)

@[simp] theorem settleStray_ocuFits (t : Table) (s : State) (hP : Ocu.Fits s.ocu) : Ocu.Fits (settleStray t s).ocu := by
  unfold settleStray; (try dsimp only); (repeat' split) <;> first | (with_reducible exact hP) | (simp +contextual (maxDischargeDepth := 12) [hP]; done)

@[simp] theorem endUntestable_ocuFits (n : PullNote) (s : State) (hP : Ocu.Fits s.ocu) : Ocu.Fits (endUntestable n s).ocu := by
  unfold endUntestable; (try dsimp only); (repeat' split) <;> first | (with_reducible exact hP) | (simp +contextual (maxDischargeDepth := 12) [hP]; done)

@[simp] theorem skipScan_ocuFits (s : State) (hP : Ocu.Fits s.ocu) : Ocu.Fits (skipScan s).ocu := by
  unfold skipScan; (try dsimp only); (repeat' split) <;> first | (with_reducible exact hP) | (simp +contextual (maxDischargeDepth := 12) [hP]; done)

@[simp] theorem requestSkip_ocuFits (w u : Nat) (s : State) (hP : Ocu.Fits s.ocu) : Ocu.Fits (requestSkip w u s).ocu := by
  unfold requestSkip; (try dsimp only); (repeat' split) <;> first | (with_reducible exact hP) | (simp +contextual (maxDischargeDepth := 12) [hP]; done)

@[simp] theorem skipAnswered_ocuFits (applied : Bool) (w u : Nat) (s : State) (hP : Ocu.Fits s.ocu) : Ocu.Fits (skipAnswered applied w u s).ocu := by
  unfold skipAnswered; (try dsimp only); (repeat' split) <;> first | (with_reducible exact hP) | (simp +contextual (maxDischargeDepth := 12) [hP]; done)

@[simp] theorem dropSkips_ocuFits (s : State) (hP : Ocu.Fits s.ocu) : Ocu.Fits (dropSkips s).ocu := by
  unfold dropSkips; (try dsimp only); (repeat' split) <;> first | (with_reducible exact hP) | (simp +contextual (maxDischargeDepth := 12) [hP]; done)

@[simp] theorem startTakt_ocuFits (s : State) (hP : Ocu.Fits s.ocu) : Ocu.Fits (startTakt s).ocu := by
  unfold startTakt; (try dsimp only); (repeat' split) <;> first | (with_reducible exact hP) | (simp +contextual (maxDischargeDepth := 12) [hP]; done)

@[simp] theorem clearWsc_ocuFits (s : State) (hP : Ocu.Fits s.ocu) : Ocu.Fits (clearWsc s).ocu := by
  unfold clearWsc; (try dsimp only); (repeat' split) <;> first | (with_reducible exact hP) | (simp +contextual (maxDischargeDepth := 12) [hP]; done)

@[simp] theorem startVoteRec_ocuFits (s : State) (hP : Ocu.Fits s.ocu) : Ocu.Fits (startVoteRec s).ocu := by
  unfold startVoteRec; (try dsimp only); (repeat' split) <;> first | (with_reducible exact hP) | (simp +contextual (maxDischargeDepth := 12) [hP]; done)

@[simp] theorem settleVoteRec_ocuFits (s : State) (hP : Ocu.Fits s.ocu) : Ocu.Fits (settleVoteRec s).ocu := by
  unfold settleVoteRec; (try dsimp only); (repeat' split) <;> first | (with_reducible exact hP) | (simp +contextual (maxDischargeDepth := 12) [hP]; done)

@[simp] theorem sendHead_ocuFits (c : HeadCmd) (s : State) (hP : Ocu.Fits s.ocu) : Ocu.Fits (sendHead c s).ocu := by
  unfold sendHead; (try dsimp only); (repeat' split) <;> first | (with_reducible exact hP) | (simp +contextual (maxDischargeDepth := 12) [hP]; done)

@[simp] theorem reportEnd_ocuFits (n : Note) (s : State) (hP : Ocu.Fits s.ocu) : Ocu.Fits (reportEnd n s).ocu := by
  unfold reportEnd; (try dsimp only); (repeat' split) <;> first | (with_reducible exact hP) | (simp +contextual (maxDischargeDepth := 12) [hP]; done)

@[simp] theorem startClaim_ocuFits (e : WorkEntry) (s : State) (hP : Ocu.Fits s.ocu) : Ocu.Fits (startClaim e s).ocu := by
  unfold startClaim; (try dsimp only); (repeat' split) <;> first | (with_reducible exact hP) | (simp +contextual (maxDischargeDepth := 12) [hP]; done)

@[simp] theorem workGroup_ocuFits (e : WorkEntry) (c : Cursor) (s : State) (hP : Ocu.Fits s.ocu) : Ocu.Fits (workGroup e c s).ocu := by
  unfold workGroup; (try dsimp only); (repeat' split) <;> first | (with_reducible exact hP) | (simp +contextual (maxDischargeDepth := 12) [hP]; done)

@[simp] theorem workTest_ocuFits (e : WorkEntry) (c : Cursor) (s : State) (hP : Ocu.Fits s.ocu) : Ocu.Fits (workTest e c s).ocu := by
  unfold workTest; (try dsimp only); (repeat' split) <;> first | (with_reducible exact hP) | (simp +contextual (maxDischargeDepth := 12) [hP]; done)

@[simp] theorem workHead_ocuFits (e : WorkEntry) (s : State) (hP : Ocu.Fits s.ocu) : Ocu.Fits (workHead e s).ocu := by
  unfold workHead; (try dsimp only); (repeat' split) <;> first | (with_reducible exact hP) | (simp +contextual (maxDischargeDepth := 12) [hP]; done)

@[simp] theorem endStopped_ocuFits (s : State) (hP : Ocu.Fits s.ocu) : Ocu.Fits (endStopped s).ocu := by
  unfold endStopped; (try dsimp only); (repeat' split) <;> first | (with_reducible exact hP) | (simp +contextual (maxDischargeDepth := 12) [hP]; done)

@[simp] theorem stopEnded_ocuFits (s : State) (hP : Ocu.Fits s.ocu) : Ocu.Fits (s.stopEnded).ocu := by
  unfold State.stopEnded; (try dsimp only); (repeat' split) <;> first | (with_reducible exact hP) | (simp +contextual (maxDischargeDepth := 12) [hP]; done)

@[simp] theorem parkStopped_ocuFits (s : State) (hP : Ocu.Fits s.ocu) : Ocu.Fits (parkStopped s).ocu := by
  unfold parkStopped; (try dsimp only); (repeat' split) <;> first | (with_reducible exact hP) | (simp +contextual (maxDischargeDepth := 12) [hP]; done)

@[simp] theorem driveStep_ocuFits (s : State) (hP : Ocu.Fits s.ocu) : Ocu.Fits (driveStep s).ocu := by
  unfold driveStep; (try dsimp only); (repeat' split) <;> first | (with_reducible exact hP) | (simp +contextual (maxDischargeDepth := 12) [hP]; done)

@[simp] theorem driveN_ocuFits (n : Nat) (s : State) (hP : Ocu.Fits s.ocu) : Ocu.Fits (driveN n s).ocu := by
  induction n generalizing s with
  | zero => simpa [driveN] using hP
  | succ n ih => exact ih _ (by simp (maxDischargeDepth := 12) [hP])

@[simp] theorem drive_ocuFits (s : State) (hP : Ocu.Fits s.ocu) : Ocu.Fits (drive s).ocu := by
  unfold drive; (try dsimp only); (repeat' split) <;> first | (with_reducible exact hP) | (simp +contextual (maxDischargeDepth := 12) [hP]; done)

@[simp] theorem releaseWork_ocuFits (f : WorkEntry → Bool) (s : State) (hP : Ocu.Fits s.ocu) : Ocu.Fits (releaseWork f s).ocu := by
  unfold releaseWork; (try dsimp only); (repeat' split) <;> first | (with_reducible exact hP) | (simp +contextual (maxDischargeDepth := 12) [hP]; done)

@[simp] theorem dropMarked_ocuFits (s : State) (hP : Ocu.Fits s.ocu) : Ocu.Fits (dropMarked s).ocu := by
  unfold dropMarked; (try dsimp only); (repeat' split) <;> first | (with_reducible exact hP) | (simp +contextual (maxDischargeDepth := 12) [hP]; done)

@[simp] theorem enterHalted_ocuFits (s : State) (hP : Ocu.Fits s.ocu) : Ocu.Fits (enterHalted s).ocu := by
  unfold enterHalted; (try dsimp only); (repeat' split) <;> first | (with_reducible exact hP) | (simp +contextual (maxDischargeDepth := 12) [hP]; done)

@[simp] theorem enterSpoolOut_ocuFits (s : State) (hP : Ocu.Fits s.ocu) : Ocu.Fits (enterSpoolOut s).ocu := by
  unfold enterSpoolOut; (try dsimp only); (repeat' split) <;> first | (with_reducible exact hP) | (simp +contextual (maxDischargeDepth := 12) [hP]; done)

@[simp] theorem actAlert_ocuFits (a : AlertKind) (s : State) (hP : Ocu.Fits s.ocu) : Ocu.Fits (actAlert a s).ocu := by
  unfold actAlert; (try dsimp only); (repeat' split) <;> first | (with_reducible exact hP) | (simp +contextual (maxDischargeDepth := 12) [hP]; done)

@[simp] theorem leaveHalt_ocuFits (pos : HeadPos) (s : State) (hP : Ocu.Fits s.ocu) : Ocu.Fits (leaveHalt pos s).ocu := by
  unfold leaveHalt; (try dsimp only); (repeat' split) <;> first | (with_reducible exact hP) | (simp +contextual (maxDischargeDepth := 12) [hP]; done)

@[simp] theorem setHead_ocuFits (h : HeadPos) (s : State) (hP : Ocu.Fits s.ocu) : Ocu.Fits (setHead h s).ocu := by
  unfold setHead; (try dsimp only); (repeat' split) <;> first | (with_reducible exact hP) | (simp +contextual (maxDischargeDepth := 12) [hP]; done)

@[simp] theorem wireDone_ocuFits (m : Meas) (s : State) (hP : Ocu.Fits s.ocu) : Ocu.Fits (wireDone m s).ocu := by
  unfold wireDone; (try dsimp only); (repeat' split) <;> first | (with_reducible exact hP) | (simp +contextual (maxDischargeDepth := 12) [hP]; done)

@[simp] theorem wireMissed_ocuFits (s : State) (hP : Ocu.Fits s.ocu) : Ocu.Fits (wireMissed s).ocu := by
  unfold wireMissed; (try dsimp only); (repeat' split) <;> first | (with_reducible exact hP) | (simp +contextual (maxDischargeDepth := 12) [hP]; done)

@[simp] theorem pullOutcome_ocuFits (res : Nat → Nat × Nat × Nat) (s : State) (hP : Ocu.Fits s.ocu) : Ocu.Fits (pullOutcome res s).ocu := by
  unfold pullOutcome; (try dsimp only); (repeat' split) <;> first | (with_reducible exact hP) | (simp +contextual (maxDischargeDepth := 12) [hP]; done)

@[simp] theorem hookMissed_ocuFits (s : State) (hP : Ocu.Fits s.ocu) : Ocu.Fits (hookMissed s).ocu := by
  unfold hookMissed; (try dsimp only); (repeat' split) <;> first | (with_reducible exact hP) | (simp +contextual (maxDischargeDepth := 12) [hP]; done)

@[simp] theorem answerCmd_ocuFits (cmd : HeadCmd) (c : Completion) (s : State) (hP : Ocu.Fits s.ocu) : Ocu.Fits (answerCmd cmd c s).ocu := by
  unfold answerCmd; (try dsimp only); (repeat' split) <;> first | (with_reducible exact hP) | (simp +contextual (maxDischargeDepth := 12) [hP]; done)

@[simp] theorem endClaims_ocuFits (s : State) (hP : Ocu.Fits s.ocu) : Ocu.Fits (endClaims s).ocu := by
  unfold endClaims; (try dsimp only); (repeat' split) <;> first | (with_reducible exact hP) | (simp +contextual (maxDischargeDepth := 12) [hP]; done)

@[simp] theorem endCmd_ocuFits (o : Outstanding) (c : Completion) (s : State) (hP : Ocu.Fits s.ocu) : Ocu.Fits (endCmd o c s).ocu := by
  unfold endCmd; (try dsimp only); (repeat' split) <;> first | (with_reducible exact hP) | (simp +contextual (maxDischargeDepth := 12) [hP]; done)

@[simp] theorem headAnswer_ocuFits (tag : Byte) (c : Completion) (s : State) (hP : Ocu.Fits s.ocu) : Ocu.Fits (headAnswer tag c s).ocu := by
  unfold headAnswer; (try dsimp only); (repeat' split) <;> first | (with_reducible exact hP) | (simp +contextual (maxDischargeDepth := 12) [hP]; done)

@[simp] theorem headExpired_ocuFits (s : State) (hP : Ocu.Fits s.ocu) : Ocu.Fits (headExpired s).ocu := by
  unfold headExpired; (try dsimp only); (repeat' split) <;> first | (with_reducible exact hP) | (simp +contextual (maxDischargeDepth := 12) [hP]; done)

@[simp] theorem handClaim_ocuFits (e : OwnClaim) (s : State) (hP : Ocu.Fits s.ocu) : Ocu.Fits (handClaim e s).ocu := by
  unfold handClaim; (try dsimp only); (repeat' split) <;> first | (with_reducible exact hP) | (simp +contextual (maxDischargeDepth := 12) [hP]; done)

@[simp] theorem closeWork_ocuFits (f : WorkEntry → Bool) (s : State) (hP : Ocu.Fits s.ocu) : Ocu.Fits (closeWork f s).ocu := by
  unfold closeWork; (try dsimp only); (repeat' split) <;> first | (with_reducible exact hP) | (simp +contextual (maxDischargeDepth := 12) [hP]; done)

@[simp] theorem closeClaims_ocuFits (f : Nat → Bool) (s : State) (hP : Ocu.Fits s.ocu) : Ocu.Fits (closeClaims f s).ocu := by
  unfold closeClaims; (try dsimp only); (repeat' split) <;> first | (with_reducible exact hP) | (simp +contextual (maxDischargeDepth := 12) [hP]; done)

@[simp] theorem loseClaim_ocuFits (w u g : Nat) (s : State) (hP : Ocu.Fits s.ocu) : Ocu.Fits (loseClaim w u g s).ocu := by
  unfold loseClaim; (try dsimp only); (repeat' split) <;> first | (with_reducible exact hP) | (simp +contextual (maxDischargeDepth := 12) [hP]; done)

@[simp] theorem stopWork_ocuFits (s : State) (hP : Ocu.Fits s.ocu) : Ocu.Fits (stopWork s).ocu := by
  unfold stopWork; (try dsimp only); (repeat' split) <;> first | (with_reducible exact hP) | (simp +contextual (maxDischargeDepth := 12) [hP]; done)

@[simp] theorem indexPark_ocuFits (s : State) (hP : Ocu.Fits s.ocu) : Ocu.Fits (indexPark s).ocu := by
  unfold indexPark; (try dsimp only); (repeat' split) <;> first | (with_reducible exact hP) | (simp +contextual (maxDischargeDepth := 12) [hP]; done)

@[simp] theorem takePause_ocuFits (s : State) (hP : Ocu.Fits s.ocu) : Ocu.Fits (takePause s).ocu := by
  unfold takePause; (try dsimp only); (repeat' split) <;> first | (with_reducible exact hP) | (simp +contextual (maxDischargeDepth := 12) [hP]; done)

@[simp] theorem takeResume_ocuFits (s : State) (hP : Ocu.Fits s.ocu) : Ocu.Fits (takeResume s).ocu := by
  unfold takeResume; (try dsimp only); (repeat' split) <;> first | (with_reducible exact hP) | (simp +contextual (maxDischargeDepth := 12) [hP]; done)

@[simp] theorem takeClear_ocuFits (st : BState) (s : State) (hP : Ocu.Fits s.ocu) : Ocu.Fits (takeClear st s).ocu := by
  unfold takeClear; (try dsimp only); (repeat' split) <;> first | (with_reducible exact hP) | (simp +contextual (maxDischargeDepth := 12) [hP]; done)

@[simp] theorem restartBsq_ocuFits (s : State) (hP : Ocu.Fits s.ocu) : Ocu.Fits (restartBsq s).ocu := by
  unfold restartBsq; (try dsimp only); (repeat' split) <;> first | (with_reducible exact hP) | (simp +contextual (maxDischargeDepth := 12) [hP]; done)

@[simp] theorem restBsq_ocuFits (s : State) (hP : Ocu.Fits s.ocu) : Ocu.Fits (restBsq s).ocu := by
  unfold restBsq; (try dsimp only); (repeat' split) <;> first | (with_reducible exact hP) | (simp +contextual (maxDischargeDepth := 12) [hP]; done)

@[simp] theorem settle_ocuFits (always : Bool) (old : State) (s : State) (hP : Ocu.Fits s.ocu) : Ocu.Fits (settle always old s).ocu := by
  unfold settle; (try dsimp only); (repeat' split) <;> first | (with_reducible exact hP) | (simp +contextual (maxDischargeDepth := 12) [hP]; done)

@[simp] theorem sense_ocuFits (lv : Levels) (s : State) (hP : Ocu.Fits s.ocu) : Ocu.Fits (sense lv s).ocu := by
  unfold sense; (try dsimp only); (repeat' split) <;> first | (with_reducible exact hP) | (simp +contextual (maxDischargeDepth := 12) [hP]; done)

@[simp] theorem setClamp_ocuFits (c : ClampSt) (s : State) (hP : Ocu.Fits s.ocu) : Ocu.Fits (setClamp c s).ocu := by
  unfold setClamp; (try dsimp only); (repeat' split) <;> first | (with_reducible exact hP) | (simp +contextual (maxDischargeDepth := 12) [hP]; done)

@[simp] theorem tellOpen_ocuFits (b : Bool) (s : State) (hP : Ocu.Fits s.ocu) : Ocu.Fits (tellOpen b s).ocu := by
  unfold tellOpen; (try dsimp only); (repeat' split) <;> first | (with_reducible exact hP) | (simp +contextual (maxDischargeDepth := 12) [hP]; done)

@[simp] theorem openClamp_ocuFits (s : State) (hP : Ocu.Fits s.ocu) : Ocu.Fits (openClamp s).ocu := by
  unfold openClamp; (try dsimp only); (repeat' split) <;> first | (with_reducible exact hP) | (simp +contextual (maxDischargeDepth := 12) [hP]; done)

@[simp] theorem closeClamp_ocuFits (s : State) (hP : Ocu.Fits s.ocu) : Ocu.Fits (closeClamp s).ocu := by
  unfold closeClamp; (try dsimp only); (repeat' split) <;> first | (with_reducible exact hP) | (simp +contextual (maxDischargeDepth := 12) [hP]; done)

@[simp] theorem takeUpClamp_ocuFits (s : State) (hP : Ocu.Fits s.ocu) : Ocu.Fits (takeUpClamp s).ocu := by
  unfold takeUpClamp; (try dsimp only); (repeat' split) <;> first | (with_reducible exact hP) | (simp +contextual (maxDischargeDepth := 12) [hP]; done)

@[simp] theorem clearClamp_ocuFits (s : State) (hP : Ocu.Fits s.ocu) : Ocu.Fits (clearClamp s).ocu := by
  unfold clearClamp; (try dsimp only); (repeat' split) <;> first | (with_reducible exact hP) | (simp +contextual (maxDischargeDepth := 12) [hP]; done)

@[simp] theorem startBeam_ocuFits (s : State) (hP : Ocu.Fits s.ocu) : Ocu.Fits (startBeam s).ocu := by
  unfold startBeam; (try dsimp only); (repeat' split) <;> first | (with_reducible exact hP) | (simp +contextual (maxDischargeDepth := 12) [hP]; done)

@[simp] theorem motionNote_ocuFits (m : Bool) (n : Note) (s : State) (hP : Ocu.Fits s.ocu) : Ocu.Fits (motionNote m n s).ocu := by
  unfold motionNote; (try dsimp only); (repeat' split) <;> first | (with_reducible exact hP) | (simp +contextual (maxDischargeDepth := 12) [hP]; done)

@[simp] theorem faultBeam_ocuFits (cause : Nat) (s : State) (hP : Ocu.Fits s.ocu) : Ocu.Fits (faultBeam cause s).ocu := by
  unfold faultBeam; (try dsimp only); (repeat' split) <;> first | (with_reducible exact hP) | (simp +contextual (maxDischargeDepth := 12) [hP]; done)

@[simp] theorem indexOpens_ocuFits (s : State) (hP : Ocu.Fits s.ocu) : Ocu.Fits (indexOpens s).ocu := by
  unfold indexOpens; (try dsimp only); (repeat' split) <;> first | (with_reducible exact hP) | (simp +contextual (maxDischargeDepth := 12) [hP]; done)

@[simp] theorem indexCloses_ocuFits (s : State) (hP : Ocu.Fits s.ocu) : Ocu.Fits (indexCloses s).ocu := by
  unfold indexCloses; (try dsimp only); (repeat' split) <;> first | (with_reducible exact hP) | (simp +contextual (maxDischargeDepth := 12) [hP]; done)

@[simp] theorem putElev_ocuFits (m : MagName) (e : Elev) (s : State) (hP : Ocu.Fits s.ocu) : Ocu.Fits (putElev m e s).ocu := by
  unfold putElev; (try dsimp only); (repeat' split) <;> first | (with_reducible exact hP) | (simp +contextual (maxDischargeDepth := 12) [hP]; done)

@[simp] theorem chooseTarget_ocuFits (m : MagName) (s : State) (hP : Ocu.Fits s.ocu) : Ocu.Fits (chooseTarget m s).ocu := by
  unfold chooseTarget; (try dsimp only); (repeat' split) <;> first | (with_reducible exact hP) | (simp +contextual (maxDischargeDepth := 12) [hP]; done)

@[simp] theorem scanEnd_ocuFits (m : MagName) (s : State) (hP : Ocu.Fits s.ocu) : Ocu.Fits (scanEnd m s).ocu := by
  unfold scanEnd; (try dsimp only); (repeat' split) <;> first | (with_reducible exact hP) | (simp +contextual (maxDischargeDepth := 12) [hP]; done)

@[simp] theorem scanSlot_ocuFits (m : MagName) (i : Nat) (s : State) (hP : Ocu.Fits s.ocu) : Ocu.Fits (scanSlot m i s).ocu := by
  unfold scanSlot; (try dsimp only); (repeat' split) <;> first | (with_reducible exact hP) | (simp +contextual (maxDischargeDepth := 12) [hP]; done)

@[simp] theorem homeFound_ocuFits (m : MagName) (s : State) (hP : Ocu.Fits s.ocu) : Ocu.Fits (homeFound m s).ocu := by
  unfold homeFound; (try dsimp only); (repeat' split) <;> first | (with_reducible exact hP) | (simp +contextual (maxDischargeDepth := 12) [hP]; done)

@[simp] theorem startHoming_ocuFits (m : MagName) (s : State) (hP : Ocu.Fits s.ocu) : Ocu.Fits (startHoming m s).ocu := by
  unfold startHoming; (try dsimp only); (repeat' split) <;> first | (with_reducible exact hP) | (simp +contextual (maxDischargeDepth := 12) [hP]; done)

@[simp] theorem takeUpElev_ocuFits (m : MagName) (s : State) (hP : Ocu.Fits s.ocu) : Ocu.Fits (takeUpElev m s).ocu := by
  unfold takeUpElev; (try dsimp only); (repeat' split) <;> first | (with_reducible exact hP) | (simp +contextual (maxDischargeDepth := 12) [hP]; done)

@[simp] theorem stepElev_ocuFits (m : MagName) (s : State) (hP : Ocu.Fits s.ocu) : Ocu.Fits (stepElev m s).ocu := by
  unfold stepElev; (try dsimp only); (repeat' split) <;> first | (with_reducible exact hP) | (simp +contextual (maxDischargeDepth := 12) [hP]; done)

@[simp] theorem putPush_ocuFits (p : PusherName) (x : Push) (s : State) (hP : Ocu.Fits s.ocu) : Ocu.Fits (putPush p x s).ocu := by
  unfold putPush; (try dsimp only); (repeat' split) <;> first | (with_reducible exact hP) | (simp +contextual (maxDischargeDepth := 12) [hP]; done)

@[simp] theorem faultPush_ocuFits (p : PusherName) (s : State) (hP : Ocu.Fits s.ocu) : Ocu.Fits (faultPush p s).ocu := by
  unfold faultPush; (try dsimp only); (repeat' split) <;> first | (with_reducible exact hP) | (simp +contextual (maxDischargeDepth := 12) [hP]; done)

@[simp] theorem takeUpPush_ocuFits (p : PusherName) (s : State) (hP : Ocu.Fits s.ocu) : Ocu.Fits (takeUpPush p s).ocu := by
  unfold takeUpPush; (try dsimp only); (repeat' split) <;> first | (with_reducible exact hP) | (simp +contextual (maxDischargeDepth := 12) [hP]; done)

@[simp] theorem countMissed_ocuFits (id : Nat) (s : State) (hP : Ocu.Fits s.ocu) : Ocu.Fits (countMissed id s).ocu := by
  unfold countMissed; (try dsimp only); (repeat' split) <;> first | (with_reducible exact hP) | (simp +contextual (maxDischargeDepth := 12) [hP]; done)

@[simp] theorem report_ocuFits (p : PusherName) (n : Note) (s : State) (hP : Ocu.Fits s.ocu) : Ocu.Fits (report p n s).ocu := by
  unfold report; (try dsimp only); (repeat' split) <;> first | (with_reducible exact hP) | (simp +contextual (maxDischargeDepth := 12) [hP]; done)

@[simp] theorem finishPush_ocuFits (p : PusherName) (s : State) (hP : Ocu.Fits s.ocu) : Ocu.Fits (finishPush p s).ocu := by
  unfold finishPush; (try dsimp only); (repeat' split) <;> first | (with_reducible exact hP) | (simp +contextual (maxDischargeDepth := 12) [hP]; done)

@[simp] theorem pushAnswered_ocuFits (applied : Bool) (n : Note) (p : PusherName) (s : State) (hP : Ocu.Fits s.ocu) : Ocu.Fits (pushAnswered applied n p s).ocu := by
  unfold pushAnswered; (try dsimp only); (repeat' split) <;> first | (with_reducible exact hP) | (simp +contextual (maxDischargeDepth := 12) [hP]; done)

@[simp] theorem takeSeated_ocuFits (s : State) (hP : Ocu.Fits s.ocu) : Ocu.Fits (takeSeated s).ocu := by
  unfold takeSeated; (try dsimp only); (repeat' split) <;> first | (with_reducible exact hP) | (simp +contextual (maxDischargeDepth := 12) [hP]; done)

@[simp] theorem takeRemoved_ocuFits (s : State) (hP : Ocu.Fits s.ocu) : Ocu.Fits (takeRemoved s).ocu := by
  unfold takeRemoved; (try dsimp only); (repeat' split) <;> first | (with_reducible exact hP) | (simp +contextual (maxDischargeDepth := 12) [hP]; done)

@[simp] theorem takeUpFeed_ocuFits (s : State) (hP : Ocu.Fits s.ocu) : Ocu.Fits (takeUpFeed s).ocu := by
  unfold takeUpFeed; (try dsimp only); (repeat' split) <;> first | (with_reducible exact hP) | (simp +contextual (maxDischargeDepth := 12) [hP]; done)

@[simp] theorem takeUpUnload_ocuFits (s : State) (hP : Ocu.Fits s.ocu) : Ocu.Fits (takeUpUnload s).ocu := by
  unfold takeUpUnload; (try dsimp only); (repeat' split) <;> first | (with_reducible exact hP) | (simp +contextual (maxDischargeDepth := 12) [hP]; done)

@[simp] theorem takeUp_ocuFits (s : State) (hP : Ocu.Fits s.ocu) : Ocu.Fits (takeUp s).ocu := by
  unfold takeUp; (try dsimp only); (repeat' split) <;> first | (with_reducible exact hP) | (simp +contextual (maxDischargeDepth := 12) [hP]; done)

@[simp] theorem giveUp_ocuFits (s : State) (hP : Ocu.Fits s.ocu) : Ocu.Fits (giveUp s).ocu := by
  unfold giveUp; (try dsimp only); (repeat' split) <;> first | (with_reducible exact hP) | (simp +contextual (maxDischargeDepth := 12) [hP]; done)

@[simp] theorem restElev_ocuFits (m : MagName) (s : State) (hP : Ocu.Fits s.ocu) : Ocu.Fits (restElev m s).ocu :=
  putElev_ocuFits _ _ _ hP

@[simp] theorem restElevs_ocuFits (s : State) (hP : Ocu.Fits s.ocu) : Ocu.Fits (restElevs s).ocu :=
  restElev_ocuFits _ _ (restElev_ocuFits _ _ (restElev_ocuFits _ _ hP))

@[simp] theorem restartTmu_ocuFits (s : State) (hP : Ocu.Fits s.ocu) : Ocu.Fits (restartTmu s).ocu := by
  unfold restartTmu; (try dsimp only); (repeat' split) <;> first | (with_reducible exact hP) | (simp +contextual (maxDischargeDepth := 12) [hP]; done)

@[simp] theorem judgeMags_ocuFits (s : State) (hP : Ocu.Fits s.ocu) : Ocu.Fits (judgeMags s).ocu := by
  unfold judgeMags; (try dsimp only); (repeat' split) <;> first | (with_reducible exact hP) | (simp +contextual (maxDischargeDepth := 12) [hP]; done)

@[simp] theorem settleClampWait_ocuFits (s : State) (hP : Ocu.Fits s.ocu) : Ocu.Fits (settleClampWait s).ocu := by
  unfold settleClampWait; (try dsimp only); (repeat' split) <;> first | (with_reducible exact hP) | (simp +contextual (maxDischargeDepth := 12) [hP]; done)

@[simp] theorem closeClass_ocuFits (c : Nat) (s : State) (hP : Ocu.Fits s.ocu) : Ocu.Fits (closeClass c s).ocu := by
  unfold closeClass; (try dsimp only); (repeat' split) <;> first | (with_reducible exact hP) | (simp +contextual (maxDischargeDepth := 12) [hP]; done)

@[simp] theorem judgeHolds_ocuFits (failing : Bool) (old : State) (s : State) (hP : Ocu.Fits s.ocu) : Ocu.Fits (judgeHolds failing old s).ocu := by
  unfold judgeHolds; (try dsimp only); (repeat' split) <;> first | (with_reducible exact hP) | (simp +contextual (maxDischargeDepth := 12) [hP]; done)

@[simp] theorem reView_ocuFits (failing : Bool) (old : State) (s : State) (hP : Ocu.Fits s.ocu) : Ocu.Fits (reView failing old s).ocu := by
  unfold reView; (try dsimp only); (repeat' split) <;> first | (with_reducible exact hP) | (simp +contextual (maxDischargeDepth := 12) [hP]; done)

@[simp] theorem moveLost_ocuFits (s : State) (hP : Ocu.Fits s.ocu) : Ocu.Fits (moveLost s).ocu := by
  unfold moveLost; (try dsimp only); (repeat' split) <;> first | (with_reducible exact hP) | (simp +contextual (maxDischargeDepth := 12) [hP]; done)

@[simp] theorem claimApplied_ocuFits (w u g : Nat) (s : State) (hP : Ocu.Fits s.ocu) : Ocu.Fits (claimApplied w u g s).ocu := by
  unfold claimApplied; (try dsimp only); (repeat' split) <;> first | (with_reducible exact hP) | (simp +contextual (maxDischargeDepth := 12) [hP]; done)

@[simp] theorem indexStarted_ocuFits (s : State) (hP : Ocu.Fits s.ocu) : Ocu.Fits (indexStarted s).ocu := by
  unfold indexStarted; (try dsimp only); (repeat' split) <;> first | (with_reducible exact hP) | (simp +contextual (maxDischargeDepth := 12) [hP]; done)

@[simp] theorem indexEnded_ocuFits (shift : Bool) (s : State) (hP : Ocu.Fits s.ocu) : Ocu.Fits (indexEnded shift s).ocu := by
  unfold indexEnded; (try dsimp only); (repeat' split) <;> first | (with_reducible exact hP) | (simp +contextual (maxDischargeDepth := 12) [hP]; done)

@[simp] theorem retarget_ocuFits (m : MagName) (s : State) (hP : Ocu.Fits s.ocu) : Ocu.Fits (retarget m s).ocu := by
  unfold retarget; (try dsimp only); (repeat' split) <;> first | (with_reducible exact hP) | (simp +contextual (maxDischargeDepth := 12) [hP]; done)

@[simp] theorem reseek_ocuFits (m : MagName) (s : State) (hP : Ocu.Fits s.ocu) : Ocu.Fits (reseek m s).ocu := by
  unfold reseek; (try dsimp only); (repeat' split) <;> first | (with_reducible exact hP) | (simp +contextual (maxDischargeDepth := 12) [hP]; done)

@[simp] theorem loadedAnswered_ocuFits (m : Nat) (ev : Nat) (s : State) (hP : Ocu.Fits s.ocu) : Ocu.Fits (loadedAnswered m ev s).ocu := by
  unfold loadedAnswered; (try dsimp only); (repeat' split) <;> first | (with_reducible exact hP) | (simp +contextual (maxDischargeDepth := 12) [hP]; done)

@[simp] theorem pushersAnswered_ocuFits (applied : Bool) (n : Note) (s : State) (hP : Ocu.Fits s.ocu) : Ocu.Fits (pushersAnswered applied n s).ocu := by
  unfold pushersAnswered; (try dsimp only); (repeat' split) <;> first | (with_reducible exact hP) | (simp +contextual (maxDischargeDepth := 12) [hP]; done)

@[simp] theorem pullApplied_ocuFits (p : Plan) (own : Bool) (sender index : Nat) (n : PullNote) (s : State) (hP : Ocu.Fits s.ocu) : Ocu.Fits (pullApplied p own sender index n s).ocu := by
  unfold pullApplied; (try dsimp only); (repeat' split) <;> first | (with_reducible exact hP) | (simp +contextual (maxDischargeDepth := 12) [hP]; done)

@[simp] theorem stripGone_ocuFits (id : Nat) (s : State) (hP : Ocu.Fits s.ocu) : Ocu.Fits (stripGone id s).ocu := by
  unfold stripGone; (try dsimp only); (repeat' split) <;> first | (with_reducible exact hP) | (simp +contextual (maxDischargeDepth := 12) [hP]; done)

@[simp] theorem tellApplied_ocuFits (p : Plan) (own : Bool) (sender : Nat) (t t' : Table) (n : Note) (s : State) (hP : Ocu.Fits s.ocu) : Ocu.Fits (tellApplied p own sender t t' n s).ocu := by
  unfold tellApplied; (try dsimp only); (repeat' split) <;> first | (with_reducible exact hP) | (simp +contextual (maxDischargeDepth := 12) [hP]; done)

@[simp] theorem tellRefused_ocuFits (n : Note) (s : State) (hP : Ocu.Fits s.ocu) : Ocu.Fits (tellRefused n s).ocu := by
  unfold tellRefused; (try dsimp only); (repeat' split) <;> first | (with_reducible exact hP) | (simp +contextual (maxDischargeDepth := 12) [hP]; done)

@[simp] theorem tellUnread_ocuFits (n : Note) (s : State) (hP : Ocu.Fits s.ocu) : Ocu.Fits (tellUnread n s).ocu := by
  unfold tellUnread; (try dsimp only); (repeat' split) <;> first | (with_reducible exact hP) | (simp +contextual (maxDischargeDepth := 12) [hP]; done)

@[simp] theorem putTable_ocuFits (t : Table) (s : State) (hP : Ocu.Fits s.ocu) : Ocu.Fits (putTable t s).ocu := by
  unfold putTable; (try dsimp only); (repeat' split) <;> first | (with_reducible exact hP) | (simp +contextual (maxDischargeDepth := 12) [hP]; done)

@[simp] theorem noteApplied_ocuFits (p : Plan) (c : NoteCtx) (t t' : Table) (n : Note) (s : State) (hP : Ocu.Fits s.ocu) : Ocu.Fits (noteApplied p c t t' n s).ocu := by
  unfold noteApplied; (try dsimp only); (repeat' split) <;> first | (with_reducible exact hP) | (simp +contextual (maxDischargeDepth := 12) [hP]; done)

@[simp] theorem noteRefused_ocuFits (c : NoteCtx) (n : Note) (s : State) (hP : Ocu.Fits s.ocu) : Ocu.Fits (noteRefused c n s).ocu := by
  unfold noteRefused; (try dsimp only); (repeat' split) <;> first | (with_reducible exact hP) | (simp +contextual (maxDischargeDepth := 12) [hP]; done)

@[simp] theorem copierNote_ocuFits (p : Plan) (c : NoteCtx) (t : Table) (n : Note) (s : State) (hP : Ocu.Fits s.ocu) : Ocu.Fits (copierNote p c t n s).ocu := by
  unfold copierNote; (try dsimp only); (repeat' split) <;> first | (with_reducible exact hP) | (simp +contextual (maxDischargeDepth := 12) [hP]; done)

@[simp] theorem handNote_ocuFits (f : Frame) (n : Note) (s : State) (hP : Ocu.Fits s.ocu) : Ocu.Fits (handNote f n s).ocu := by
  unfold handNote; (try dsimp only); (repeat' split) <;> first | (with_reducible exact hP) | (simp +contextual (maxDischargeDepth := 12) [hP]; done)

@[simp] theorem enterResync_ocuFits (p : Plan) (s : State) (hP : Ocu.Fits s.ocu) : Ocu.Fits (enterResync p s).ocu := by
  unfold enterResync; (try dsimp only); (repeat' split) <;> first | (with_reducible exact hP) | (simp +contextual (maxDischargeDepth := 12) [hP]; done)

@[simp] theorem tableCompleted_ocuFits (s : State) (hP : Ocu.Fits s.ocu) : Ocu.Fits (tableCompleted s).ocu := by
  unfold tableCompleted; (try dsimp only); (repeat' split) <;> first | (with_reducible exact hP) | (simp +contextual (maxDischargeDepth := 12) [hP]; done)

@[simp] theorem leaveResync_ocuFits (s : State) (hP : Ocu.Fits s.ocu) : Ocu.Fits (leaveResync s).ocu := by
  unfold leaveResync; (try dsimp only); (repeat' split) <;> first | (with_reducible exact hP) | (simp +contextual (maxDischargeDepth := 12) [hP]; done)

@[simp] theorem checkClaims_ocuFits (w lo : Nat) (s : State) (hP : Ocu.Fits s.ocu) : Ocu.Fits (checkClaims w lo s).ocu := by
  unfold checkClaims; (try dsimp only); (repeat' split) <;> first | (with_reducible exact hP) | (simp +contextual (maxDischargeDepth := 12) [hP]; done)

@[simp] theorem retargetCopied_ocuFits (n : Nat) (s : State) (hP : Ocu.Fits s.ocu) : Ocu.Fits (retargetCopied n s).ocu := by
  unfold retargetCopied; (try dsimp only); (repeat' split) <;> first | (with_reducible exact hP) | (simp +contextual (maxDischargeDepth := 12) [hP]; done)

@[simp] theorem takeSection_ocuFits (p : Plan) (n : Nat) (body : List Byte) (s : State) (hP : Ocu.Fits s.ocu) : Ocu.Fits (takeSection p n body s).ocu := by
  unfold takeSection; (try dsimp only); (repeat' split) <;> first | (with_reducible exact hP) | (simp +contextual (maxDischargeDepth := 12) [hP]; done)

@[simp] theorem handHeader_ocuFits (f : Frame) (s : State) (hP : Ocu.Fits s.ocu) : Ocu.Fits (handHeader f s).ocu := by
  unfold handHeader; (try dsimp only); (repeat' split) <;> first | (with_reducible exact hP) | (simp +contextual (maxDischargeDepth := 12) [hP]; done)

@[simp] theorem unreadableHeard_ocuFits (s : State) (hP : Ocu.Fits s.ocu) : Ocu.Fits (unreadableHeard s).ocu := by
  unfold unreadableHeard; (try dsimp only); (repeat' split) <;> first | (with_reducible exact hP) | (simp +contextual (maxDischargeDepth := 12) [hP]; done)

@[simp] theorem absence_ocuFits (k : Nat) (s : State) (hP : Ocu.Fits s.ocu) : Ocu.Fits (absence k s).ocu := by
  unfold absence; (try dsimp only); (repeat' split) <;> first | (with_reducible exact hP) | (simp +contextual (maxDischargeDepth := 12) [hP]; done)

@[simp] theorem resyncExpired_ocuFits (s : State) (hP : Ocu.Fits s.ocu) : Ocu.Fits (resyncExpired s).ocu := by
  unfold resyncExpired; (try dsimp only); (repeat' split) <;> first | (with_reducible exact hP) | (simp +contextual (maxDischargeDepth := 12) [hP]; done)

@[simp] theorem discardTable_ocuFits (s : State) (hP : Ocu.Fits s.ocu) : Ocu.Fits (discardTable s).ocu := by
  unfold discardTable; (try dsimp only); (repeat' split) <;> first | (with_reducible exact hP) | (simp +contextual (maxDischargeDepth := 12) [hP]; done)

@[simp] theorem beginGather_ocuFits (s : State) (hP : Ocu.Fits s.ocu) : Ocu.Fits (beginGather s).ocu := by
  unfold beginGather; (try dsimp only); (repeat' split) <;> first | (with_reducible exact hP) | (simp +contextual (maxDischargeDepth := 12) [hP]; done)

@[simp] theorem startFresh_ocuFits (s : State) (hP : Ocu.Fits s.ocu) : Ocu.Fits (startFresh s).ocu := by
  unfold startFresh; (try dsimp only); (repeat' split) <;> first | (with_reducible exact hP) | (simp +contextual (maxDischargeDepth := 12) [hP]; done)

@[simp] theorem becomeActive_ocuFits (s : State) (hP : Ocu.Fits s.ocu) : Ocu.Fits (becomeActive s).ocu := by
  unfold becomeActive; (try dsimp only); (repeat' split) <;> first | (with_reducible exact hP) | (simp +contextual (maxDischargeDepth := 12) [hP]; done)

@[simp] theorem checkJoin_ocuFits (s : State) (hP : Ocu.Fits s.ocu) : Ocu.Fits (checkJoin s).ocu := by
  unfold checkJoin; (try dsimp only); (repeat' split) <;> first | (with_reducible exact hP) | (simp +contextual (maxDischargeDepth := 12) [hP]; done)

@[simp] theorem countJoin_ocuFits (gath : Bool) (s : State) (hP : Ocu.Fits s.ocu) : Ocu.Fits (countJoin gath s).ocu := by
  unfold countJoin; (try dsimp only); (repeat' split) <;> first | (with_reducible exact hP) | (simp +contextual (maxDischargeDepth := 12) [hP]; done)

@[simp] theorem watches_ocuFits (sender due res : Bool) (s : State) (hP : Ocu.Fits s.ocu) : Ocu.Fits (watches sender due res s).ocu := by
  unfold watches; (try dsimp only); (repeat' split) <;> first | (with_reducible exact hP) | (simp +contextual (maxDischargeDepth := 12) [hP]; done)

@[simp] theorem clearStaging_ocuFits (s : State) (hP : Ocu.Fits s.ocu) : Ocu.Fits (clearStaging s).ocu := by
  unfold clearStaging; (try dsimp only); (repeat' split) <;> first | (with_reducible exact hP) | (simp +contextual (maxDischargeDepth := 12) [hP]; done)

@[simp] theorem discardPlan_ocuFits (s : State) (hP : Ocu.Fits s.ocu) : Ocu.Fits (discardPlan s).ocu := by
  unfold discardPlan; (try dsimp only); (repeat' split) <;> first | (with_reducible exact hP) | (simp +contextual (maxDischargeDepth := 12) [hP]; done)

@[simp] theorem holdPlan_ocuFits (p : Plan) (s : State) (hP : Ocu.Fits s.ocu) : Ocu.Fits (holdPlan p s).ocu := by
  unfold holdPlan; (try dsimp only); (repeat' split) <;> first | (with_reducible exact hP) | (simp +contextual (maxDischargeDepth := 12) [hP]; done)

@[simp] theorem refusePlan_ocuFits (s : State) (hP : Ocu.Fits s.ocu) : Ocu.Fits (refusePlan s).ocu := by
  unfold refusePlan; (try dsimp only); (repeat' split) <;> first | (with_reducible exact hP) | (simp +contextual (maxDischargeDepth := 12) [hP]; done)

@[simp] theorem tryComplete_ocuFits (s : State) (hP : Ocu.Fits s.ocu) : Ocu.Fits (tryComplete s).ocu := by
  unfold tryComplete; (try dsimp only); (repeat' split) <;> first | (with_reducible exact hP) | (simp +contextual (maxDischargeDepth := 12) [hP]; done)

@[simp] theorem stagePlan_ocuFits (id off : Nat) (bs : List Byte) (s : State) (hP : Ocu.Fits s.ocu) : Ocu.Fits (stagePlan id off bs s).ocu := by
  unfold stagePlan; (try dsimp only); (repeat' split) <;> first | (with_reducible exact hP) | (simp +contextual (maxDischargeDepth := 12) [hP]; done)

@[simp] theorem countIgnored_ocuFits (s : State) (hP : Ocu.Fits s.ocu) : Ocu.Fits (countIgnored s).ocu := by
  unfold countIgnored; (try dsimp only); (repeat' split) <;> first | (with_reducible exact hP) | (simp +contextual (maxDischargeDepth := 12) [hP]; done)

@[simp] theorem handlePlan_ocuFits (id off : Nat) (bs : List Byte) (s : State) (hP : Ocu.Fits s.ocu) : Ocu.Fits (handlePlan id off bs s).ocu := by
  unfold handlePlan; (try dsimp only); (repeat' split) <;> first | (with_reducible exact hP) | (simp +contextual (maxDischargeDepth := 12) [hP]; done)

@[simp] theorem compareTarget_ocuFits (s : State) (hP : Ocu.Fits s.ocu) : Ocu.Fits (compareTarget s).ocu := by
  unfold compareTarget; (try dsimp only); (repeat' split) <;> first | (with_reducible exact hP) | (simp +contextual (maxDischargeDepth := 12) [hP]; done)

@[simp] theorem endAbsent_ocuFits (s : State) (hP : Ocu.Fits s.ocu) : Ocu.Fits (endAbsent s).ocu := by
  unfold endAbsent; (try dsimp only); (repeat' split) <;> first | (with_reducible exact hP) | (simp +contextual (maxDischargeDepth := 12) [hP]; done)

@[simp] theorem endResync_ocuFits (s : State) (hP : Ocu.Fits s.ocu) : Ocu.Fits (endResync s).ocu := by
  unfold endResync; (try dsimp only); (repeat' split) <;> first | (with_reducible exact hP) | (simp +contextual (maxDischargeDepth := 12) [hP]; done)

@[simp] theorem enterListen_ocuFits (silenced : Bool) (s : State) (hP : Ocu.Fits s.ocu) : Ocu.Fits (enterListen silenced s).ocu := by
  unfold enterListen; (try dsimp only); (repeat' split) <;> first | (with_reducible exact hP) | (simp +contextual (maxDischargeDepth := 12) [hP]; done)

@[simp] theorem leaveListen_ocuFits (s : State) (hP : Ocu.Fits s.ocu) : Ocu.Fits (leaveListen s).ocu := by
  unfold leaveListen; (try dsimp only); (repeat' split) <;> first | (with_reducible exact hP) | (simp +contextual (maxDischargeDepth := 12) [hP]; done)

@[simp] theorem loseFeed_ocuFits (s : State) (hP : Ocu.Fits s.ocu) : Ocu.Fits (loseFeed s).ocu := by
  unfold loseFeed; (try dsimp only); (repeat' split) <;> first | (with_reducible exact hP) | (simp +contextual (maxDischargeDepth := 12) [hP]; done)

@[simp] theorem loseUnload_ocuFits (s : State) (hP : Ocu.Fits s.ocu) : Ocu.Fits (loseUnload s).ocu := by
  unfold loseUnload; (try dsimp only); (repeat' split) <;> first | (with_reducible exact hP) | (simp +contextual (maxDischargeDepth := 12) [hP]; done)

@[simp] theorem loseDuties_ocuFits (s : State) (hP : Ocu.Fits s.ocu) : Ocu.Fits (loseDuties s).ocu := by
  unfold loseDuties; (try dsimp only); (repeat' split) <;> first | (with_reducible exact hP) | (simp +contextual (maxDischargeDepth := 12) [hP]; done)

@[simp] theorem dropToJoining_ocuFits (s : State) (hP : Ocu.Fits s.ocu) : Ocu.Fits (dropToJoining s).ocu := by
  unfold dropToJoining; (try dsimp only); (repeat' split) <;> first | (with_reducible exact hP) | (simp +contextual (maxDischargeDepth := 12) [hP]; done)

@[simp] theorem planConflict_ocuFits (f : Frame) (s : State) (hP : Ocu.Fits s.ocu) : Ocu.Fits (planConflict f s).ocu := by
  unfold planConflict; (try dsimp only); (repeat' split) <;> first | (with_reducible exact hP) | (simp +contextual (maxDischargeDepth := 12) [hP]; done)

@[simp] theorem beginRestartCheck_ocuFits (s : State) (hP : Ocu.Fits s.ocu) : Ocu.Fits (beginRestartCheck s).ocu := by
  unfold beginRestartCheck; simp [hP]

@[simp] theorem restProgress_ocuFits (s : State) (hP : Ocu.Fits s.ocu) : Ocu.Fits (restProgress s).ocu := by
  unfold restProgress; (try dsimp only); (repeat' split) <;> first | (with_reducible exact hP) | (simp +contextual (maxDischargeDepth := 12) [hP]; done)

@[simp] theorem beginRestart_ocuFits (s : State) (hP : Ocu.Fits s.ocu) : Ocu.Fits (beginRestart s).ocu := by
  unfold beginRestart; (try dsimp only); (repeat' split) <;> first | (with_reducible exact hP) | (simp +contextual (maxDischargeDepth := 12) [hP]; done)

@[simp] theorem restandAlarms_ocuFits (s : State) (hP : Ocu.Fits s.ocu) : Ocu.Fits (restandAlarms s).ocu := by
  have h0 : Ocu.Fits { s.ocu with alarms := [], overflow := 0 } := Ocu.Fits_alarms _ hP _ (Nat.zero_le _) _
  unfold restandAlarms; dsimp only; (repeat' split) <;> simp (maxDischargeDepth := 12) [h0]

@[simp] theorem endSelfCheck_ocuFits (failed : List CheckItem) (s : State) (hP : Ocu.Fits s.ocu) : Ocu.Fits (endSelfCheck failed s).ocu := by
  unfold endSelfCheck; (try dsimp only); (repeat' split) <;> first | (with_reducible exact hP) | (simp +contextual (maxDischargeDepth := 12) [hP]; done)

@[simp] theorem dropBuilt_ocuFits (s : State) (n : Note) (hP : Ocu.Fits s.ocu) : Ocu.Fits (dropBuilt s n).ocu := by
  unfold dropBuilt; (try dsimp only); (repeat' split) <;> first | (with_reducible exact hP) | (simp +contextual (maxDischargeDepth := 12) [hP]; done)

@[simp] theorem buildFrame_ocuFits (s : State) (hP : Ocu.Fits s.ocu) : Ocu.Fits (buildFrame s).ocu := by
  unfold buildFrame; (try dsimp only); (repeat' split) <;> first | (with_reducible exact hP) | (simp +contextual (maxDischargeDepth := 12) [hP]; done)

@[simp] theorem sendCold_ocuFits (s : State) (hP : Ocu.Fits s.ocu) : Ocu.Fits (sendCold s).ocu := by
  unfold sendCold; (try dsimp only); (repeat' split) <;> first | (with_reducible exact hP) | (simp +contextual (maxDischargeDepth := 12) [hP]; done)

@[simp] theorem judgeAbsent_ocuFits (s : State) (hP : Ocu.Fits s.ocu) : Ocu.Fits (judgeAbsent s).ocu := by
  unfold judgeAbsent; (try dsimp only); (repeat' split) <;> first | (with_reducible exact hP) | (simp +contextual (maxDischargeDepth := 12) [hP]; done)

@[simp] theorem countSilence_ocuFits (k : Nat) (s : State) (hP : Ocu.Fits s.ocu) : Ocu.Fits (countSilence k s).ocu := by
  unfold countSilence; (try dsimp only); (repeat' split) <;> first | (with_reducible exact hP) | (simp +contextual (maxDischargeDepth := 12) [hP]; done)

@[simp] theorem failTransmit_ocuFits (s : State) (hP : Ocu.Fits s.ocu) : Ocu.Fits (failTransmit s).ocu := by
  unfold failTransmit; (try dsimp only); (repeat' split) <;> first | (with_reducible exact hP) | (simp +contextual (maxDischargeDepth := 12) [hP]; done)

@[simp] theorem passOwn_ocuFits (k : Nat) (round : Half) (s : State) (hP : Ocu.Fits s.ocu) : Ocu.Fits (passOwn k round s).ocu := by
  unfold passOwn; (try dsimp only); (repeat' split) <;> first | (with_reducible exact hP) | (simp +contextual (maxDischargeDepth := 12) [hP]; done)

@[simp] theorem voteUnseen_ocuFits (k : Nat) (s : State) (hP : Ocu.Fits s.ocu) : Ocu.Fits (voteUnseen k s).ocu := by
  unfold voteUnseen; (try dsimp only); (repeat' split) <;> first | (with_reducible exact hP) | (simp +contextual (maxDischargeDepth := 12) [hP]; done)

@[simp] theorem endSlot_ocuFits (k : Nat) (round : Half) (gath res : Bool) (s : State) (hP : Ocu.Fits s.ocu) : Ocu.Fits (endSlot k round gath res s).ocu := by
  unfold endSlot; (try dsimp only); (repeat' split) <;> first | (with_reducible exact hP) | (simp +contextual (maxDischargeDepth := 12) [hP]; done)

@[simp] theorem endSilent_ocuFits (s : State) (hP : Ocu.Fits s.ocu) : Ocu.Fits (endSilent s).ocu := by
  unfold endSilent; (try dsimp only); (repeat' split) <;> first | (with_reducible exact hP) | (simp +contextual (maxDischargeDepth := 12) [hP]; done)

@[simp] theorem silentSlot_ocuFits (s : State) (hP : Ocu.Fits s.ocu) : Ocu.Fits (silentSlot s).ocu := by
  unfold silentSlot; (try dsimp only); (repeat' split) <;> first | (with_reducible exact hP) | (simp +contextual (maxDischargeDepth := 12) [hP]; done)

@[simp] theorem silentSlots_ocuFits (n : Nat) (s : State) (hP : Ocu.Fits s.ocu) : Ocu.Fits (silentSlots n s).ocu := by
  induction n generalizing s with
  | zero => simpa [silentSlots] using hP
  | succ n ih => exact ih _ (by simp (maxDischargeDepth := 12) [hP])

@[simp] theorem dropVoteRec_ocuFits (passes : Bool) (s : State) (hP : Ocu.Fits s.ocu) : Ocu.Fits (dropVoteRec passes s).ocu := by
  unfold dropVoteRec; (try dsimp only); (repeat' split) <;> first | (with_reducible exact hP) | (simp +contextual (maxDischargeDepth := 12) [hP]; done)

@[simp] theorem correctSlot_ocuFits (f : Frame) (s : State) (hP : Ocu.Fits s.ocu) : Ocu.Fits (correctSlot f s).ocu := by
  unfold correctSlot; (try dsimp only); (repeat' split) <;> first | (with_reducible exact hP) | (simp +contextual (maxDischargeDepth := 12) [hP]; done)

@[simp] theorem hearRoster_ocuFits (f : Frame) (s : State) (hP : Ocu.Fits s.ocu) : Ocu.Fits (hearRoster f s).ocu := by
  unfold hearRoster; (try dsimp only); (repeat' split) <;> first | (with_reducible exact hP) | (simp +contextual (maxDischargeDepth := 12) [hP]; done)

@[simp] theorem handAddressed_ocuFits (from_ : Nat) (s : State) (n : Note) (hP : Ocu.Fits s.ocu) : Ocu.Fits (handAddressed from_ s n).ocu := by
  unfold handAddressed; (try dsimp only); (repeat' split) <;> first | (with_reducible exact hP) | (simp +contextual (maxDischargeDepth := 12) [hP]; done)

@[simp] theorem handPlan_ocuFits (s : State) (n : Note) (hP : Ocu.Fits s.ocu) : Ocu.Fits (handPlan s n).ocu := by
  unfold handPlan; (try dsimp only); (repeat' split) <;> first | (with_reducible exact hP) | (simp +contextual (maxDischargeDepth := 12) [hP]; done)

@[simp] theorem handPlans_ocuFits (f : Frame) (s : State) (hP : Ocu.Fits s.ocu) : Ocu.Fits (handPlans f s).ocu := by
  unfold handPlans; (try dsimp only); (repeat' split) <;> first | (with_reducible exact hP) | (simp +contextual (maxDischargeDepth := 12) [hP]; done)

@[simp] theorem handleFrame_ocuFits (f : Frame) (s : State) (hP : Ocu.Fits s.ocu) : Ocu.Fits (handleFrame f s).ocu := by
  unfold handleFrame; (try dsimp only); (repeat' split) <;> first | (with_reducible exact hP) | (simp +contextual (maxDischargeDepth := 12) [hP]; done)

@[simp] theorem afterFrame_ocuFits (f : Frame) (own gath res : Bool) (s : State) (hP : Ocu.Fits s.ocu) : Ocu.Fits (afterFrame f own gath res s).ocu := by
  unfold afterFrame; (try dsimp only); (repeat' split) <;> first | (with_reducible exact hP) | (simp +contextual (maxDischargeDepth := 12) [hP]; done)

@[simp] theorem hearDuplicate_ocuFits (s : State) (hP : Ocu.Fits s.ocu) : Ocu.Fits (hearDuplicate s).ocu := by
  unfold hearDuplicate; (try dsimp only); (repeat' split) <;> first | (with_reducible exact hP) | (simp +contextual (maxDischargeDepth := 12) [hP]; done)

@[simp] theorem silencedFrame_ocuFits (f : Frame) (s : State) (hP : Ocu.Fits s.ocu) : Ocu.Fits (silencedFrame f s).ocu := by
  unfold silencedFrame; dsimp only
  refine foldl_oFits _ ?_ _ _ ?_
  · intro s n h; split <;> simp [h]
  · split <;> simp (maxDischargeDepth := 12) [hP]

@[simp] theorem readableFrame_ocuFits (f : Frame) (own : Bool) (s : State) (hP : Ocu.Fits s.ocu) : Ocu.Fits (readableFrame f own s).ocu := by
  unfold readableFrame; (try dsimp only); (repeat' split) <;> first | (with_reducible exact hP) | (simp +contextual (maxDischargeDepth := 12) [hP]; done)

@[simp] theorem unreadableFrame_ocuFits (mine : Bool) (s : State) (hP : Ocu.Fits s.ocu) : Ocu.Fits (unreadableFrame mine s).ocu := by
  unfold unreadableFrame; (try dsimp only); (repeat' split) <;> first | (with_reducible exact hP) | (simp +contextual (maxDischargeDepth := 12) [hP]; done)

@[simp] theorem idleLine_ocuFits (s : State) (hP : Ocu.Fits s.ocu) : Ocu.Fits (idleLine s).ocu := by
  unfold idleLine; (try dsimp only); (repeat' split) <;> first | (with_reducible exact hP) | (simp +contextual (maxDischargeDepth := 12) [hP]; done)

@[simp] theorem redraw_ocuFits (s : State) (hP : Ocu.Fits s.ocu) : Ocu.Fits (redraw s).ocu := by
  unfold redraw; (try dsimp only); (repeat' split) <;> first | (with_reducible exact hP) | (simp +contextual (maxDischargeDepth := 12) [hP]; done)

@[simp] theorem finish_ocuFits (s : State) (hP : Ocu.Fits s.ocu) : Ocu.Fits (finish s).ocu := by
  unfold finish; (try dsimp only); (repeat' split) <;> first | (with_reducible exact hP) | (simp +contextual (maxDischargeDepth := 12) [hP]; done)

@[simp] theorem conclude_ocuFits (always : Bool) (old : State) (s : State) (hP : Ocu.Fits s.ocu) : Ocu.Fits (conclude always old s).ocu := by
  unfold conclude; (try dsimp only); (repeat' split) <;> first | (with_reducible exact hP) | (simp +contextual (maxDischargeDepth := 12) [hP]; done)

@[simp] theorem moveCursor_ocuFits (d : Arrow) (s : State) (hP : Ocu.Fits s.ocu) : Ocu.Fits (moveCursor d s).ocu := by
  unfold moveCursor; (try dsimp only); (repeat' split) <;> first | (with_reducible exact hP) | (simp +contextual (maxDischargeDepth := 12) [hP]; done)

@[simp] theorem recoverIndex_ocuFits (s : State) (hP : Ocu.Fits s.ocu) : Ocu.Fits (recoverIndex s).ocu := by
  unfold recoverIndex; (try dsimp only); (repeat' split) <;> first | (with_reducible exact hP) | (simp +contextual (maxDischargeDepth := 12) [hP]; done)

@[simp] theorem handClear_ocuFits (s : State) (hP : Ocu.Fits s.ocu) : Ocu.Fits (handClear s).ocu := by
  unfold handClear; (try dsimp only); (repeat' split) <;> first | (with_reducible exact hP) | (simp +contextual (maxDischargeDepth := 12) [hP]; done)

@[simp] theorem placeHoldOff_ocuFits (s : State) (c : Nat) (hP : Ocu.Fits s.ocu) : Ocu.Fits (placeHoldOff s c).ocu := by
  unfold placeHoldOff; (try dsimp only); (repeat' split) <;> first | (with_reducible exact hP) | (simp +contextual (maxDischargeDepth := 12) [hP]; done)

@[simp] theorem handHoldRel_ocuFits (s : State) (hP : Ocu.Fits s.ocu) : Ocu.Fits (handHoldRel s).ocu := by
  unfold handHoldRel; (try dsimp only); (repeat' split) <;> first | (with_reducible exact hP) | (simp +contextual (maxDischargeDepth := 12) [hP]; done)

@[simp] theorem handSkip_ocuFits (s : State) (hP : Ocu.Fits s.ocu) : Ocu.Fits (handSkip s).ocu := by
  unfold handSkip; (try dsimp only); (repeat' split) <;> first | (with_reducible exact hP) | (simp +contextual (maxDischargeDepth := 12) [hP]; done)

@[simp] theorem sendRow_ocuFits (s : State) (hP : Ocu.Fits s.ocu) : Ocu.Fits (sendRow s).ocu := by
  unfold sendRow; (try dsimp only); (repeat' split) <;> first | (with_reducible exact hP) | (simp +contextual (maxDischargeDepth := 12) [hP]; done)

@[simp] theorem rowSent_ocuFits (s : State) (hP : Ocu.Fits s.ocu) : Ocu.Fits (rowSent s).ocu := by
  unfold rowSent; (try dsimp only); (repeat' split) <;> first | (with_reducible exact hP) | (simp +contextual (maxDischargeDepth := 12) [hP]; done)

@[simp] theorem recordDone_ocuFits (s : State) (hP : Ocu.Fits s.ocu) : Ocu.Fits (recordDone s).ocu := by
  unfold recordDone; (try dsimp only); (repeat' split) <;> first | (with_reducible exact hP) | (simp +contextual (maxDischargeDepth := 12) [hP]; done)

@[simp] theorem recordFailed_ocuFits (s : State) (hP : Ocu.Fits s.ocu) : Ocu.Fits (recordFailed s).ocu := by
  unfold recordFailed; (try dsimp only); (repeat' split) <;> first | (with_reducible exact hP) | (simp +contextual (maxDischargeDepth := 12) [hP]; done)

@[simp] theorem headerDone_ocuFits (s : State) (hP : Ocu.Fits s.ocu) : Ocu.Fits (headerDone s).ocu := by
  unfold headerDone; (try dsimp only); (repeat' split) <;> first | (with_reducible exact hP) | (simp +contextual (maxDischargeDepth := 12) [hP]; done)

@[simp] theorem headerFailed_ocuFits (s : State) (hP : Ocu.Fits s.ocu) : Ocu.Fits (headerFailed s).ocu := by
  unfold headerFailed; (try dsimp only); (repeat' split) <;> first | (with_reducible exact hP) | (simp +contextual (maxDischargeDepth := 12) [hP]; done)

@[simp] theorem eraseFinished_ocuFits (s : State) (hP : Ocu.Fits s.ocu) : Ocu.Fits (eraseFinished s).ocu := by
  unfold eraseFinished; (try dsimp only); (repeat' split) <;> first | (with_reducible exact hP) | (simp +contextual (maxDischargeDepth := 12) [hP]; done)

@[simp] theorem eraseFailed_ocuFits (s : State) (hP : Ocu.Fits s.ocu) : Ocu.Fits (eraseFailed s).ocu := by
  unfold eraseFailed; (try dsimp only); (repeat' split) <;> first | (with_reducible exact hP) | (simp +contextual (maxDischargeDepth := 12) [hP]; done)

@[simp] theorem badMarkEnded_ocuFits (completed : Bool) (s : State) (hP : Ocu.Fits s.ocu) : Ocu.Fits (badMarkEnded completed s).ocu := by
  unfold badMarkEnded; (try dsimp only); (repeat' split) <;> first | (with_reducible exact hP) | (simp +contextual (maxDischargeDepth := 12) [hP]; done)

@[simp] theorem retracted_ocuFits (readBack : Byte) (s : State) (hP : Ocu.Fits s.ocu) : Ocu.Fits (retracted readBack s).ocu := by
  unfold retracted; (try dsimp only); (repeat' split) <;> first | (with_reducible exact hP) | (simp +contextual (maxDischargeDepth := 12) [hP]; done)

@[simp] theorem recordRead_ocuFits (s : State) (hP : Ocu.Fits s.ocu) : Ocu.Fits (recordRead s).ocu := by
  unfold recordRead; (try dsimp only); (repeat' split) <;> first | (with_reducible exact hP) | (simp +contextual (maxDischargeDepth := 12) [hP]; done)

@[simp] theorem endMount_ocuFits (answered : Bool) (s : State) (hP : Ocu.Fits s.ocu) : Ocu.Fits (endMount answered s).ocu := by
  unfold endMount; (try dsimp only); (repeat' split) <;> first | (with_reducible exact hP) | (simp +contextual (maxDischargeDepth := 12) [hP]; done)

@[simp] theorem afterSlot_ocuFits (s : State) (hP : Ocu.Fits s.ocu) : Ocu.Fits (afterSlot s).ocu := by
  unfold afterSlot; (try dsimp only); (repeat' split) <;> first | (with_reducible exact hP) | (simp +contextual (maxDischargeDepth := 12) [hP]; done)

@[simp] theorem quietExpired_ocuFits (s : State) (hP : Ocu.Fits s.ocu) : Ocu.Fits (quietExpired s).ocu := by
  unfold quietExpired; (try dsimp only); (repeat' split) <;> first | (with_reducible exact hP) | (simp +contextual (maxDischargeDepth := 12) [hP]; done)

@[simp] theorem unreadableEnd_ocuFits (s : State) (hP : Ocu.Fits s.ocu) : Ocu.Fits (unreadableEnd s).ocu := by
  unfold unreadableEnd; (try dsimp only); (repeat' split) <;> first | (with_reducible exact hP) | (simp +contextual (maxDischargeDepth := 12) [hP]; done)

@[simp] theorem frameEnd_ocuFits (chars : List Byte) (s : State) (hP : Ocu.Fits s.ocu) : Ocu.Fits (frameEnd chars s).ocu := by
  unfold frameEnd; (try dsimp only); (repeat' split) <;> first | (with_reducible exact hP) | (simp +contextual (maxDischargeDepth := 12) [hP]; done)

@[simp] theorem badFrameEnd_ocuFits (s : State) (hP : Ocu.Fits s.ocu) : Ocu.Fits (badFrameEnd s).ocu := by
  unfold badFrameEnd; (try dsimp only); (repeat' split) <;> first | (with_reducible exact hP) | (simp +contextual (maxDischargeDepth := 12) [hP]; done)

@[simp] theorem slotEnds_ocuFits (lv : Levels) (s : State) (hP : Ocu.Fits s.ocu) : Ocu.Fits (slotEnds lv s).ocu := by
  unfold slotEnds; (try dsimp only); (repeat' split) <;> first | (with_reducible exact hP) | (simp +contextual (maxDischargeDepth := 12) [hP]; done)

@[simp] theorem unsend_ocuFits (s : State) (hP : Ocu.Fits s.ocu) : Ocu.Fits (unsend s).ocu := by
  unfold unsend; (try dsimp only); (repeat' split) <;> first | (with_reducible exact hP) | (simp +contextual (maxDischargeDepth := 12) [hP]; done)

@[simp] theorem missDeadline_ocuFits (s : State) (hP : Ocu.Fits s.ocu) : Ocu.Fits (missDeadline s).ocu := by
  unfold missDeadline; (try dsimp only); (repeat' split) <;> first | (with_reducible exact hP) | (simp +contextual (maxDischargeDepth := 12) [hP]; done)

@[simp] theorem coldMismatch_ocuFits (s : State) (hP : Ocu.Fits s.ocu) : Ocu.Fits (coldMismatch s).ocu := by
  unfold coldMismatch; (try dsimp only); (repeat' split) <;> first | (with_reducible exact hP) | (simp +contextual (maxDischargeDepth := 12) [hP]; done)

@[simp] theorem mismatch_ocuFits (s : State) (hP : Ocu.Fits s.ocu) : Ocu.Fits (mismatch s).ocu := by
  unfold mismatch; (try dsimp only); (repeat' split) <;> first | (with_reducible exact hP) | (simp +contextual (maxDischargeDepth := 12) [hP]; done)

@[simp] theorem taktExpired_ocuFits (s : State) (hP : Ocu.Fits s.ocu) : Ocu.Fits (taktExpired s).ocu := by
  unfold taktExpired; (try dsimp only); (repeat' split) <;> first | (with_reducible exact hP) | (simp +contextual (maxDischargeDepth := 12) [hP]; done)

@[simp] theorem clampWaitExpired_ocuFits (s : State) (hP : Ocu.Fits s.ocu) : Ocu.Fits (clampWaitExpired s).ocu := by
  unfold clampWaitExpired; (try dsimp only); (repeat' split) <;> first | (with_reducible exact hP) | (simp +contextual (maxDischargeDepth := 12) [hP]; done)

@[simp] theorem headAlerted_ocuFits (a : AlertKind) (s : State) (hP : Ocu.Fits s.ocu) : Ocu.Fits (headAlerted a s).ocu := by
  unfold headAlerted; (try dsimp only); (repeat' split) <;> first | (with_reducible exact hP) | (simp +contextual (maxDischargeDepth := 12) [hP]; done)

@[simp] theorem takeByte_ocuFits (is : Byte → Bool) (act : Byte → Ocu → Ocu) (hA : ∀ b (o : Ocu), o.Fits → (act b o).Fits)
    (s : State) (hP : Ocu.Fits s.ocu) : Ocu.Fits (takeByte is act s).ocu := Ocu.Fits_interpret _ _ hA _ hP

@[simp] theorem takeKey_ocuFits (c : Byte) (hand : State → State) (hA : ∀ s : State, s.ocu.Fits → (hand s).ocu.Fits) (s : State)
    (hP : Ocu.Fits s.ocu) : Ocu.Fits (takeKey c hand s).ocu := by
  unfold takeKey
  (repeat' split)
  · exact hP
  · rename_i k r hk _
    refine hA _ (Ocu.Fits_keys _ hP _ ?_)
    have := hP.2.2.1; rw [hk] at this; simp at this; omega
  · exact hP

@[simp] theorem clampOpened_ocuFits (s : State) (hP : Ocu.Fits s.ocu) : Ocu.Fits (clampOpened s).ocu := by
  unfold clampOpened; (try dsimp only); (repeat' split) <;> first | (with_reducible exact hP) | (simp +contextual (maxDischargeDepth := 12) [hP]; done)

@[simp] theorem openLimit_ocuFits (s : State) (hP : Ocu.Fits s.ocu) : Ocu.Fits (openLimit s).ocu := by
  unfold openLimit; (try dsimp only); (repeat' split) <;> first | (with_reducible exact hP) | (simp +contextual (maxDischargeDepth := 12) [hP]; done)

@[simp] theorem beamDone_ocuFits (s : State) (hP : Ocu.Fits s.ocu) : Ocu.Fits (beamDone s).ocu := by
  unfold beamDone; (try dsimp only); (repeat' split) <;> first | (with_reducible exact hP) | (simp +contextual (maxDischargeDepth := 12) [hP]; done)

@[simp] theorem removeMagazine_ocuFits (m : MagName) (s : State) (hP : Ocu.Fits s.ocu) : Ocu.Fits (removeMagazine m s).ocu := by
  unfold removeMagazine; (try dsimp only); (repeat' split) <;> first | (with_reducible exact hP) | (simp +contextual (maxDischargeDepth := 12) [hP]; done)

@[simp] theorem startPush_ocuFits (p : PusherName) (s : State) (hP : Ocu.Fits s.ocu) : Ocu.Fits (startPush p s).ocu := by
  unfold startPush; (try dsimp only); (repeat' split) <;> first | (with_reducible exact hP) | (simp +contextual (maxDischargeDepth := 12) [hP]; done)

@[simp] theorem pushExpired_ocuFits (p : PusherName) (s : State) (hP : Ocu.Fits s.ocu) : Ocu.Fits (pushExpired p s).ocu := by
  unfold pushExpired; (try dsimp only); (repeat' split) <;> first | (with_reducible exact hP) | (simp +contextual (maxDischargeDepth := 12) [hP]; done)

@[simp] theorem clampClosed_ocuFits (s : State) (hP : Ocu.Fits s.ocu) : Ocu.Fits (clampClosed s).ocu := by
  unfold clampClosed; (try dsimp only); (repeat' split) <;> first | (with_reducible exact hP) | (simp +contextual (maxDischargeDepth := 12) [hP]; done)

@[simp] theorem beamHomed_ocuFits (s : State) (hP : Ocu.Fits s.ocu) : Ocu.Fits (beamHomed s).ocu := by
  unfold beamHomed; (try dsimp only); (repeat' split) <;> first | (with_reducible exact hP) | (simp +contextual (maxDischargeDepth := 12) [hP]; done)

@[simp] theorem insertMagazine_ocuFits (m : MagName) (s : State) (hP : Ocu.Fits s.ocu) : Ocu.Fits (insertMagazine m s).ocu := by
  unfold insertMagazine; (try dsimp only); (repeat' split) <;> first | (with_reducible exact hP) | (simp +contextual (maxDischargeDepth := 12) [hP]; done)

@[simp] theorem viewUp_ocuFits (s : State) (hP : Ocu.Fits s.ocu) : Ocu.Fits (viewUp s).ocu :=
  ⟨hP.1, hP.2.1, hP.2.2.1, hP.2.2.2.1, hP.2.2.2.2.1, hP.2.2.2.2.2.1, hP.2.2.2.2.2.2.1,
    le_trans (Nat.sub_le _ _) hP.2.2.2.2.2.2.2⟩

@[simp] theorem viewDown_ocuFits (s : State) (hP : Ocu.Fits s.ocu) : Ocu.Fits (viewDown s).ocu := by
  refine ⟨hP.1, hP.2.1, hP.2.2.1, hP.2.2.2.1, hP.2.2.2.2.1, hP.2.2.2.2.2.1, hP.2.2.2.2.2.2.1, ?_⟩
  have := hP.2.2.2.2.2.2.2
  simp only [viewDown]; split <;> omega

@[simp] theorem poweredOn_ocuFits (x : Straps) (lv : Levels) (m : List Host.Cell) (n : Nat) (q : List Instr) :
    Ocu.Fits (State.poweredOn x lv m n q).ocu := Ocu.Fits_reset

end Sys2Proof.Machine
end

