-- ==== Sys2Proof/Laws/Memory.lean ====
section
/-! SUPPORT. The flash as a memory: every operation on it keeps the canonical form, and what a byte reads as afterwards. -/

set_option linter.all false

namespace Sys2Proof.Machine

/-- Addresses strictly rising. -/
def Rising (m : List Host.Cell) : Prop := m.Pairwise (fun a b => a.1 < b.1)

/-- An admissible entry of the flash. -/
def FlashCell (c : Host.Cell) : Prop := c.2 ≠ 0xFF#8 ∧ c.1 < Config.flashBlocks * Config.blockBytes

theorem wf_iff (m : List Host.Cell) : Memory.wf m = true ↔ Rising m ∧ ∀ c ∈ m, FlashCell c := by
  simp [Memory.wf, Rising, FlashCell, List.pairwise_map, List.all_eq_true]

/-! ## Lists of cells -/

theorem mem_cellPut {a b m} {c : Host.Cell} (h : c ∈ cellPut a b m) : c = (a, b) ∨ c ∈ m := by
  induction m with
  | nil => simpa [cellPut] using h
  | cons x m ih =>
    obtain ⟨k, v⟩ := x
    unfold cellPut at h
    split at h
    · rcases List.mem_cons.mp h with h | h
      · exact .inl h
      · exact .inr (List.mem_cons_of_mem _ h)
    · split at h
      · rcases List.mem_cons.mp h with h | h
        · exact .inl h
        · exact .inr h
      · rcases List.mem_cons.mp h with h | h
        · exact .inr (h ▸ List.mem_cons_self ..)
        · exact (ih h).imp id (List.mem_cons_of_mem _)

theorem mem_cellDel {a m} {c : Host.Cell} (h : c ∈ cellDel a m) : c ∈ m := by
  induction m with
  | nil => exact h
  | cons x m ih =>
    obtain ⟨k, v⟩ := x
    unfold cellDel at h
    split at h
    · exact List.mem_cons_of_mem _ h
    · split at h
      · exact h
      · rcases List.mem_cons.mp h with h | h
        · exact h ▸ List.mem_cons_self ..
        · exact List.mem_cons_of_mem _ (ih h)

theorem rising_cellPut (a b) {m} (h : Rising m) : Rising (cellPut a b m) := by
  induction m with
  | nil => simp [cellPut, Rising]
  | cons x m ih =>
    obtain ⟨k, v⟩ := x
    obtain ⟨h1, h2⟩ := List.pairwise_cons.mp h
    unfold cellPut
    split
    · rename_i hk; subst hk; exact List.pairwise_cons.mpr ⟨h1, h2⟩
    · split
      · rename_i hlt
        refine List.pairwise_cons.mpr ⟨?_, h⟩
        intro c hc
        rcases List.mem_cons.mp hc with hc | hc
        · subst hc; exact hlt
        · exact lt_trans hlt (h1 c hc)
      · refine List.pairwise_cons.mpr ⟨?_, ih h2⟩
        intro c hc
        rcases mem_cellPut hc with hc | hc
        · subst hc; show k < a; omega
        · exact h1 c hc

theorem rising_cellDel (a) {m} (h : Rising m) : Rising (cellDel a m) := by
  induction m with
  | nil => exact h
  | cons x m ih =>
    obtain ⟨k, v⟩ := x
    obtain ⟨h1, h2⟩ := List.pairwise_cons.mp h
    unfold cellDel
    split
    · exact h2
    · split
      · exact h
      · exact List.pairwise_cons.mpr ⟨fun c hc => h1 c (mem_cellDel hc), ih h2⟩

theorem cellGet_below {m : List Host.Cell} {a} (h : ∀ c ∈ m, a < c.1) : cellGet m a = none := by
  cases m with
  | nil => rfl
  | cons x m =>
    obtain ⟨k, v⟩ := x
    have hk : a < k := h (k, v) (List.mem_cons_self ..)
    unfold cellGet
    rw [if_neg (by omega), if_pos hk]

/-- A byte put reads back; every other address reads as before. -/
theorem cellGet_cellPut (a b x) {m} (h : Rising m) : cellGet (cellPut a b m) x = if x = a then some b else cellGet m x := by
  induction m with
  | nil => simp only [cellPut, cellGet]; split <;> (try split) <;> rfl
  | cons y m ih =>
    obtain ⟨k, v⟩ := y
    obtain ⟨h1, h2⟩ := List.pairwise_cons.mp h
    unfold cellPut
    split
    · rename_i hk; subst hk
      unfold cellGet
      (repeat' split) <;> first | rfl | omega
    · split
      · rename_i hk hlt
        rw [cellGet]
        split
        · rfl
        · split
          · rename_i h3 h4
            rw [cellGet_below]
            intro c hc
            rcases List.mem_cons.mp hc with hc | hc
            · subst hc; show x < k; omega
            · have := h1 c hc; omega
          · rfl
      · rename_i hk hlt
        rw [cellGet, ih h2, cellGet]
        (repeat' split) <;> first | rfl | omega

/-- A byte deleted is listed no more; every other address reads as before. -/
theorem cellGet_cellDel (a x) {m} (h : Rising m) : cellGet (cellDel a m) x = if x = a then none else cellGet m x := by
  induction m with
  | nil => simp [cellDel, cellGet]
  | cons y m ih =>
    obtain ⟨k, v⟩ := y
    obtain ⟨h1, h2⟩ := List.pairwise_cons.mp h
    unfold cellDel
    split
    · rename_i hk; subst hk
      split
      · rename_i hx; subst hx; exact cellGet_below h1
      · rename_i hx
        rw [cellGet]
        split
        · omega
        · split
          · exact cellGet_below fun c hc => lt_trans (by assumption) (h1 c hc)
          · rfl
    · split
      · rename_i hk hlt
        split
        · rename_i hx; subst hx
          exact cellGet_below fun c hc => by
            rcases List.mem_cons.mp hc with hc | hc
            · subst hc; exact hlt
            · exact lt_trans hlt (h1 c hc)
        · rfl
      · rename_i hk hlt
        rw [cellGet, ih h2, cellGet]
        (repeat' split) <;> first | rfl | omega

/-! ## The flash -/

/-- Setting a byte keeps the canonical form. -/
theorem wf_flashSet {m} (a b) (h : Memory.wf m = true) : Memory.wf (flashSet m a b) = true := by
  rw [wf_iff] at h ⊢
  unfold flashSet
  split
  · exact ⟨rising_cellDel a h.1, fun c hc => h.2 c (mem_cellDel hc)⟩
  · split
    · rename_i hb ha
      refine ⟨rising_cellPut a b h.1, fun c hc => ?_⟩
      rcases mem_cellPut hc with hc | hc
      · subst hc; exact ⟨hb, ha⟩
      · exact h.2 c hc
    · exact h

/-- A byte set inside the flash reads back; every other byte reads as before. -/
theorem flashRead_flashSet {m} (a b x) (h : Memory.wf m = true) (ha : a < Config.flashBlocks * Config.blockBytes) :
    flashRead (flashSet m a b) x = if x = a then b else flashRead m x := by
  have hr := ((wf_iff m).mp h).1
  unfold flashRead flashSet
  split
  · rename_i hb; rw [cellGet_cellDel a x hr]; split <;> simp [hb]
  · rw [cellGet_cellPut a b x hr]
    split <;> rfl

theorem wf_flashProgram {m} (a bs) (h : Memory.wf m = true) : Memory.wf (flashProgram m a bs) = true := by
  induction bs generalizing m a with
  | nil => exact h
  | cons b bs ih => exact ih _ (wf_flashSet _ _ h)

theorem wf_flashProgramFail {m} (n a bs) (h : Memory.wf m = true) : Memory.wf (flashProgramFail n m a bs) = true := by
  induction bs generalizing m a with
  | nil => exact h
  | cons b bs ih => exact ih _ (wf_flashSet _ _ h)

/-- A program clears bits of the bytes it covers and leaves every other byte. -/
theorem flashRead_flashProgram {m} (a bs x) (h : Memory.wf m = true)
    (ha : a + bs.length ≤ Config.flashBlocks * Config.blockBytes) :
    flashRead (flashProgram m a bs) x =
      if a ≤ x ∧ x < a + bs.length then flashRead m x &&& bs.getD (x - a) 0xFF#8 else flashRead m x := by
  induction bs generalizing m a with
  | nil => rw [if_neg (by simp)]; rfl
  | cons b bs ih =>
    rw [List.length_cons] at ha
    rw [flashProgram, ih (a + 1) (wf_flashSet _ _ h) (by omega), flashRead_flashSet _ _ _ h (by omega)]
    by_cases hx : x = a
    · subst hx
      rw [if_neg (by omega), if_pos rfl, if_pos ⟨le_rfl, by simp⟩]; simp
    · rw [if_neg hx]
      by_cases hr : a + 1 ≤ x ∧ x < a + 1 + bs.length
      · rw [if_pos hr, if_pos ⟨by omega, by rw [List.length_cons]; omega⟩]
        obtain ⟨k, hk⟩ : ∃ k, x - a = k + 1 := ⟨x - a - 1, by omega⟩
        rw [hk, show x - (a + 1) = k by omega]; rfl
      · rw [if_neg hr, if_neg (by rw [List.length_cons]; omega)]

theorem wf_filter {m : List Host.Cell} (f) (h : Memory.wf m = true) : Memory.wf (m.filter f) = true := by
  rw [wf_iff] at h ⊢
  exact ⟨h.1.filter f, fun c hc => h.2 c (List.mem_of_mem_filter hc)⟩

theorem wf_flashErase {m} (blk) (h : Memory.wf m = true) : Memory.wf (flashErase m blk) = true := wf_filter _ h

theorem cellGet_filter {m : List Host.Cell} (f : Nat → Bool) (x) (h : Rising m) :
    cellGet (m.filter fun c => f c.1) x = if f x then cellGet m x else none := by
  induction m with
  | nil => simp [cellGet]
  | cons y m ih =>
    obtain ⟨k, v⟩ := y
    obtain ⟨h1, h2⟩ := List.pairwise_cons.mp h
    by_cases hk : f k
    · rw [List.filter_cons_of_pos (by simpa using hk), cellGet, ih h2, cellGet]
      by_cases hx : x = k
      · subst hx; simp [hk]
      · rw [if_neg hx, if_neg hx]; split <;> split <;> rfl
    · rw [List.filter_cons_of_neg (by simpa using hk), ih h2, cellGet]
      by_cases hx : x = k
      · subst hx; simp [hk]
      · rw [if_neg hx]
        by_cases hlt : x < k
        · rw [if_pos hlt, cellGet_below fun c hc => lt_trans hlt (h1 c hc)]
        · rw [if_neg hlt]

/-- An erased block reads 0xFF in every byte; every other block reads as before. -/
theorem flashRead_flashErase {m} (blk x) (h : Memory.wf m = true) :
    flashRead (flashErase m blk) x = if inBlock blk x then 0xFF#8 else flashRead m x := by
  have hr := ((wf_iff m).mp h).1
  unfold flashRead flashErase
  rw [cellGet_filter (fun a => !inBlock blk a) x hr]
  cases inBlock blk x <;> rfl

theorem wf_flashEraseFail {m} (n blk) (h : Memory.wf m = true) : Memory.wf (flashEraseFail n m blk) = true := by
  rw [wf_iff] at h ⊢
  have hmap : ∀ c : Host.Cell, (if inBlock blk c.1 then (c.1, c.2 ||| Config.failedErase n c.1) else c).1 = c.1 := by
    intro c; split <;> rfl
  refine ⟨List.Pairwise.filter _ ?_, ?_⟩
  · refine List.pairwise_map.mpr (h.1.imp fun {a b} hab => ?_)
    rw [hmap, hmap]; exact hab
  · intro c hc
    obtain ⟨hc1, hc2⟩ := List.mem_filter.mp hc
    obtain ⟨d, hd, rfl⟩ := List.mem_map.mp hc1
    refine ⟨by simpa using hc2, ?_⟩
    rw [hmap]; exact (h.2 d hd).2

end Sys2Proof.Machine
end

