-- ==== Sys2Proof/Laws/Queue.lean ====
section
/-! SUPPORT. The note queue keeps to its places, and a request waits only while it is full (R19): one lemma an operation. -/

set_option linter.all false
namespace Sys2Proof.Machine

/-- The queue keeps to its places, a request waits only while it is full, and is in no frame while it waits. -/
def Lnk.Sound (l : Lnk) : Prop :=
  l.queue.length ≤ Config.queuePlaces ∧ (l.waiting = [] ∨ l.queue.length = Config.queuePlaces) ∧
  ∀ q ∈ l.waiting, q.inFlight = false

theorem Lnk.Sound_drain (l : Lnk) (h : l.queue.length ≤ Config.queuePlaces) (hw : ∀ q ∈ l.waiting, q.inFlight = false) :
    l.drain.Sound := by
  unfold Lnk.drain Lnk.Sound
  simp only [List.length_append, List.length_take, List.drop_eq_nil_iff]
  exact ⟨by omega, by omega, fun q hq => hw q (List.mem_of_mem_drop hq)⟩

@[simp] theorem Lnk.Sound_request (p n) (l : Lnk) (h : l.Sound) : (l.request p n).Sound := by
  refine Lnk.Sound_drain _ h.1 ?_
  intro q hq
  rcases List.mem_append.1 hq with hq | hq
  · exact h.2.2 q hq
  · rw [List.mem_singleton.1 hq]
@[simp] theorem Lnk.Sound_takeOut (f) (l : Lnk) (h : l.Sound) : (l.takeOut f).Sound :=
  Lnk.Sound_drain _ (le_trans (List.length_filter_le _ _) h.1) fun q hq => h.2.2 q (List.mem_filter.1 hq).1
@[simp] theorem Lnk.Sound_sent (l : Lnk) (h : l.Sound) : l.sent.Sound :=
  Lnk.Sound_drain _ (le_trans (List.length_filter_le _ _) h.1) h.2.2
@[simp] theorem Lnk.Sound_unsent (l : Lnk) (h : l.Sound) : l.unsent.Sound := by
  simpa [Lnk.unsent, Lnk.Sound] using h
@[simp] theorem Lnk.Sound_takeBack (l : Lnk) (h : l.Sound) : l.takeBack.Sound := by
  unfold Lnk.takeBack; split <;> exact h
@[simp] theorem Lnk.Sound_dropTableNotes (l : Lnk) (h : l.Sound) : l.dropTableNotes.Sound :=
  Lnk.Sound_drain _ (le_trans (List.length_filter_le _ _) h.1) fun q hq => h.2.2 q (List.mem_filter.1 hq).1
@[simp] theorem Lnk.Sound_empty (l : Lnk) : l.empty.Sound := by simp [Lnk.empty, Lnk.Sound]
@[simp] theorem Lnk.Sound_toListen (b) (l : Lnk) : (l.toListen b).Sound := by simp [Lnk.toListen, Lnk.empty, Lnk.Sound]
@[simp] theorem Lnk.Sound_reset : Lnk.reset.Sound := by simp [Lnk.reset, Lnk.Sound]
@[simp] theorem Lnk.Sound_after (k r) (l : Lnk) (h : l.Sound) : (l.after k r).Sound := h
@[simp] theorem Lnk.Sound_setEntry (k f) (l : Lnk) (h : l.Sound) : (l.setEntry k f).Sound := h
@[simp] theorem Lnk.Sound_readBack (l : Lnk) (h : l.Sound) : l.readBack.Sound := h
@[simp] theorem foldl_Sound {α : Type} (f : State → α → State) (h : ∀ s x, s.lnk.Sound → (f s x).lnk.Sound) (l : List α)
    (s : State) (hP : s.lnk.Sound) : (l.foldl f s).lnk.Sound := by
  induction l generalizing s with
  | nil => exact hP
  | cons a l ih => exact ih _ (h _ _ hP)
@[simp] theorem Lnk.Sound_mk (l : Lnk) (hP : l.Sound) (st sil q sl r ro tx li co se ok no) :
  Lnk.Sound ⟨st, sil, q, sl, r, ro, l.queue, l.waiting, tx, li, co, se, ok, no⟩ := hP

@[simp] theorem raise_sound (a : Alarm) (s : State) (hP : Lnk.Sound s.lnk) : Lnk.Sound (raise a s).lnk := by
  unfold raise; (try dsimp only); (repeat' split) <;> first | (with_reducible exact hP) | (simp +contextual (maxDischargeDepth := 12) [hP]; done)

@[simp] theorem clearAlarm_sound (a : Alarm) (s : State) (hP : Lnk.Sound s.lnk) : Lnk.Sound (clearAlarm a s).lnk := by
  unfold clearAlarm; (try dsimp only); (repeat' split) <;> first | (with_reducible exact hP) | (simp +contextual (maxDischargeDepth := 12) [hP]; done)

@[simp] theorem edgeAlarm_sound (a : Alarm) (before after : Bool) (s : State) (hP : Lnk.Sound s.lnk) : Lnk.Sound (edgeAlarm a before after s).lnk := by
  unfold edgeAlarm; (try dsimp only); (repeat' split) <;> first | (with_reducible exact hP) | (simp +contextual (maxDischargeDepth := 12) [hP]; done)

@[simp] theorem place_sound (by_ : Producer) (n : Note) (s : State) (hP : Lnk.Sound s.lnk) : Lnk.Sound (place by_ n s).lnk := by
  unfold place; (try dsimp only); (repeat' split) <;> first | (with_reducible exact hP) | (simp +contextual (maxDischargeDepth := 12) [hP]; done)

@[simp] theorem storeSettle_sound (s : State) (hP : Lnk.Sound s.lnk) : Lnk.Sound (storeSettle s).lnk := by
  unfold storeSettle; (try dsimp only); (repeat' split) <;> first | (with_reducible exact hP) | (simp +contextual (maxDischargeDepth := 12) [hP]; done)

@[simp] theorem enterStoreFault_sound (s : State) (hP : Lnk.Sound s.lnk) : Lnk.Sound (enterStoreFault s).lnk := by
  unfold enterStoreFault; (try dsimp only); (repeat' split) <;> first | (with_reducible exact hP) | (simp +contextual (maxDischargeDepth := 12) [hP]; done)

@[simp] theorem countFailure_sound (s : State) (hP : Lnk.Sound s.lnk) : Lnk.Sound (countFailure s).lnk := by
  unfold countFailure; (try dsimp only); (repeat' split) <;> first | (with_reducible exact hP) | (simp +contextual (maxDischargeDepth := 12) [hP]; done)

@[simp] theorem handleFetch_sound (requester : Nat) (f : FetchNote) (s : State) (hP : Lnk.Sound s.lnk) : Lnk.Sound (handleFetch requester f s).lnk := by
  unfold handleFetch; (try dsimp only); (repeat' split) <;> first | (with_reducible exact hP) | (simp +contextual (maxDischargeDepth := 12) [hP]; done)

@[simp] theorem handleCancel_sound (tag : Nat) (s : State) (hP : Lnk.Sound s.lnk) : Lnk.Sound (handleCancel tag s).lnk := by
  unfold handleCancel; (try dsimp only); (repeat' split) <;> first | (with_reducible exact hP) | (simp +contextual (maxDischargeDepth := 12) [hP]; done)

@[simp] theorem handleRetract_sound (requester tag n : Nat) (s : State) (hP : Lnk.Sound s.lnk) : Lnk.Sound (handleRetract requester tag n s).lnk := by
  unfold handleRetract; (try dsimp only); (repeat' split) <;> first | (with_reducible exact hP) | (simp +contextual (maxDischargeDepth := 12) [hP]; done)

@[simp] theorem dropClaims_sound (f : OwnClaim → Bool) (s : State) (hP : Lnk.Sound s.lnk) : Lnk.Sound (dropClaims f s).lnk := by
  unfold dropClaims; (try dsimp only); (repeat' split) <;> first | (with_reducible exact hP) | (simp +contextual (maxDischargeDepth := 12) [hP]; done)

@[simp] theorem closeQueued_sound (f : OwnClaim → Bool) (s : State) (hP : Lnk.Sound s.lnk) : Lnk.Sound (closeQueued f s).lnk := by
  unfold closeQueued; (try dsimp only); (repeat' split) <;> first | (with_reducible exact hP) | (simp +contextual (maxDischargeDepth := 12) [hP]; done)

@[simp] theorem selectOne_sound (s : State) (hP : Lnk.Sound s.lnk) : Lnk.Sound (selectOne s).lnk := by
  unfold selectOne; (try dsimp only); (repeat' split) <;> first | (with_reducible exact hP) | (simp +contextual (maxDischargeDepth := 12) [hP]; done)

@[simp] theorem closeUntestable_sound (s : State) (x : Nat × Nat × Nat) (hP : Lnk.Sound s.lnk) : Lnk.Sound (closeUntestable s x).lnk := by
  unfold closeUntestable; (try dsimp only); (repeat' split) <;> first | (with_reducible exact hP) | (simp +contextual (maxDischargeDepth := 12) [hP]; done)

@[simp] theorem select_sound (s : State) (hP : Lnk.Sound s.lnk) : Lnk.Sound (select s).lnk := by
  unfold select; (try dsimp only); (repeat' split) <;> first | (with_reducible exact hP) | (simp +contextual (maxDischargeDepth := 12) [hP]; done)

@[simp] theorem skipOne_sound (t : Table) (s : State) (k : SkipReq) (hP : Lnk.Sound s.lnk) : Lnk.Sound (skipOne t s k).lnk := by
  unfold skipOne; (try dsimp only); (repeat' split) <;> first | (with_reducible exact hP) | (simp +contextual (maxDischargeDepth := 12) [hP]; done)

@[simp] theorem endSkips_sound (f : SkipReq → Bool) (s : State) (hP : Lnk.Sound s.lnk) : Lnk.Sound (endSkips f s).lnk := by
  unfold endSkips; (try dsimp only); (repeat' split) <;> first | (with_reducible exact hP) | (simp +contextual (maxDischargeDepth := 12) [hP]; done)

@[simp] theorem dropStray_sound (s : State) (hP : Lnk.Sound s.lnk) : Lnk.Sound (dropStray s).lnk := Lnk.Sound_takeOut _ _ hP

@[simp] theorem settleStray_sound (t : Table) (s : State) (hP : Lnk.Sound s.lnk) : Lnk.Sound (settleStray t s).lnk := by
  unfold settleStray; split
  · exact hP
  · exact dropStray_sound s hP

@[simp] theorem skipScan_sound (s : State) (hP : Lnk.Sound s.lnk) : Lnk.Sound (skipScan s).lnk := by
  unfold skipScan; (try dsimp only); (repeat' split) <;> first | (with_reducible exact hP) | (simp +contextual (maxDischargeDepth := 12) [hP]; done)

@[simp] theorem requestSkip_sound (w u : Nat) (s : State) (hP : Lnk.Sound s.lnk) : Lnk.Sound (requestSkip w u s).lnk := by
  unfold requestSkip; (try dsimp only); (repeat' split) <;> first | (with_reducible exact hP) | (simp +contextual (maxDischargeDepth := 12) [hP]; done)

@[simp] theorem skipAnswered_sound (applied : Bool) (w u : Nat) (s : State) (hP : Lnk.Sound s.lnk) : Lnk.Sound (skipAnswered applied w u s).lnk := by
  unfold skipAnswered; (try dsimp only); (repeat' split) <;> first | (with_reducible exact hP) | (simp +contextual (maxDischargeDepth := 12) [hP]; done)

@[simp] theorem dropSkips_sound (s : State) (hP : Lnk.Sound s.lnk) : Lnk.Sound (dropSkips s).lnk := by
  unfold dropSkips; (try dsimp only); (repeat' split) <;> first | (with_reducible exact hP) | (simp +contextual (maxDischargeDepth := 12) [hP]; done)

@[simp] theorem startTakt_sound (s : State) (hP : Lnk.Sound s.lnk) : Lnk.Sound (startTakt s).lnk := by
  unfold startTakt; (try dsimp only); (repeat' split) <;> first | (with_reducible exact hP) | (simp +contextual (maxDischargeDepth := 12) [hP]; done)

@[simp] theorem clearWsc_sound (s : State) (hP : Lnk.Sound s.lnk) : Lnk.Sound (clearWsc s).lnk := by
  unfold clearWsc; (try dsimp only); (repeat' split) <;> first | (with_reducible exact hP) | (simp +contextual (maxDischargeDepth := 12) [hP]; done)

@[simp] theorem startVoteRec_sound (s : State) (hP : Lnk.Sound s.lnk) : Lnk.Sound (startVoteRec s).lnk := by
  unfold startVoteRec; (try dsimp only); (repeat' split) <;> first | (with_reducible exact hP) | (simp +contextual (maxDischargeDepth := 12) [hP]; done)

@[simp] theorem settleVoteRec_sound (s : State) (hP : Lnk.Sound s.lnk) : Lnk.Sound (settleVoteRec s).lnk := by
  unfold settleVoteRec; (try dsimp only); (repeat' split) <;> first | (with_reducible exact hP) | (simp +contextual (maxDischargeDepth := 12) [hP]; done)

@[simp] theorem sendHead_sound (c : HeadCmd) (s : State) (hP : Lnk.Sound s.lnk) : Lnk.Sound (sendHead c s).lnk := by
  unfold sendHead; (try dsimp only); (repeat' split) <;> first | (with_reducible exact hP) | (simp +contextual (maxDischargeDepth := 12) [hP]; done)

@[simp] theorem reportEnd_sound (n : Note) (s : State) (hP : Lnk.Sound s.lnk) : Lnk.Sound (reportEnd n s).lnk := by
  unfold reportEnd; (try dsimp only); (repeat' split) <;> first | (with_reducible exact hP) | (simp +contextual (maxDischargeDepth := 12) [hP]; done)

@[simp] theorem startClaim_sound (e : WorkEntry) (s : State) (hP : Lnk.Sound s.lnk) : Lnk.Sound (startClaim e s).lnk := by
  unfold startClaim; (try dsimp only); (repeat' split) <;> first | (with_reducible exact hP) | (simp +contextual (maxDischargeDepth := 12) [hP]; done)

@[simp] theorem workGroup_sound (e : WorkEntry) (c : Cursor) (s : State) (hP : Lnk.Sound s.lnk) : Lnk.Sound (workGroup e c s).lnk := by
  unfold workGroup; (try dsimp only); (repeat' split) <;> first | (with_reducible exact hP) | (simp +contextual (maxDischargeDepth := 12) [hP]; done)

@[simp] theorem workTest_sound (e : WorkEntry) (c : Cursor) (s : State) (hP : Lnk.Sound s.lnk) : Lnk.Sound (workTest e c s).lnk := by
  unfold workTest; (try dsimp only); (repeat' split) <;> first | (with_reducible exact hP) | (simp +contextual (maxDischargeDepth := 12) [hP]; done)

@[simp] theorem workHead_sound (e : WorkEntry) (s : State) (hP : Lnk.Sound s.lnk) : Lnk.Sound (workHead e s).lnk := by
  unfold workHead; (try dsimp only); (repeat' split) <;> first | (with_reducible exact hP) | (simp +contextual (maxDischargeDepth := 12) [hP]; done)

@[simp] theorem endStopped_sound (s : State) (hP : Lnk.Sound s.lnk) : Lnk.Sound (endStopped s).lnk := by
  unfold endStopped; (try dsimp only); (repeat' split) <;> first | (with_reducible exact hP) | (simp +contextual (maxDischargeDepth := 12) [hP]; done)

@[simp] theorem stopEnded_sound (s : State) (hP : Lnk.Sound s.lnk) : Lnk.Sound (s.stopEnded).lnk := by
  unfold State.stopEnded; (try dsimp only); (repeat' split) <;> first | (with_reducible exact hP) | (simp +contextual (maxDischargeDepth := 12) [hP]; done)

@[simp] theorem parkStopped_sound (s : State) (hP : Lnk.Sound s.lnk) : Lnk.Sound (parkStopped s).lnk := by
  unfold parkStopped; (try dsimp only); (repeat' split) <;> first | (with_reducible exact hP) | (simp +contextual (maxDischargeDepth := 12) [hP]; done)

@[simp] theorem driveStep_sound (s : State) (hP : Lnk.Sound s.lnk) : Lnk.Sound (driveStep s).lnk := by
  unfold driveStep; (try dsimp only); (repeat' split) <;> first | (with_reducible exact hP) | (simp +contextual (maxDischargeDepth := 12) [hP]; done)

@[simp] theorem driveN_sound (n : Nat) (s : State) (hP : Lnk.Sound s.lnk) : Lnk.Sound (driveN n s).lnk := by
  induction n generalizing s with
  | zero => simpa [driveN] using hP
  | succ n ih => exact ih _ (by simp (maxDischargeDepth := 12) [hP])

@[simp] theorem drive_sound (s : State) (hP : Lnk.Sound s.lnk) : Lnk.Sound (drive s).lnk := by
  unfold drive; (try dsimp only); (repeat' split) <;> first | (with_reducible exact hP) | (simp +contextual (maxDischargeDepth := 12) [hP]; done)

@[simp] theorem releaseWork_sound (f : WorkEntry → Bool) (s : State) (hP : Lnk.Sound s.lnk) : Lnk.Sound (releaseWork f s).lnk := by
  unfold releaseWork; (try dsimp only); (repeat' split) <;> first | (with_reducible exact hP) | (simp +contextual (maxDischargeDepth := 12) [hP]; done)

@[simp] theorem dropMarked_sound (s : State) (hP : Lnk.Sound s.lnk) : Lnk.Sound (dropMarked s).lnk := by
  unfold dropMarked; (try dsimp only); (repeat' split) <;> first | (with_reducible exact hP) | (simp +contextual (maxDischargeDepth := 12) [hP]; done)

@[simp] theorem enterHalted_sound (s : State) (hP : Lnk.Sound s.lnk) : Lnk.Sound (enterHalted s).lnk := by
  unfold enterHalted; (try dsimp only); (repeat' split) <;> first | (with_reducible exact hP) | (simp +contextual (maxDischargeDepth := 12) [hP]; done)

@[simp] theorem enterSpoolOut_sound (s : State) (hP : Lnk.Sound s.lnk) : Lnk.Sound (enterSpoolOut s).lnk := by
  unfold enterSpoolOut; (try dsimp only); (repeat' split) <;> first | (with_reducible exact hP) | (simp +contextual (maxDischargeDepth := 12) [hP]; done)

@[simp] theorem actAlert_sound (a : AlertKind) (s : State) (hP : Lnk.Sound s.lnk) : Lnk.Sound (actAlert a s).lnk := by
  unfold actAlert; (try dsimp only); (repeat' split) <;> first | (with_reducible exact hP) | (simp +contextual (maxDischargeDepth := 12) [hP]; done)

@[simp] theorem leaveHalt_sound (pos : HeadPos) (s : State) (hP : Lnk.Sound s.lnk) : Lnk.Sound (leaveHalt pos s).lnk := by
  unfold leaveHalt; (try dsimp only); (repeat' split) <;> first | (with_reducible exact hP) | (simp +contextual (maxDischargeDepth := 12) [hP]; done)

@[simp] theorem setHead_sound (h : HeadPos) (s : State) (hP : Lnk.Sound s.lnk) : Lnk.Sound (setHead h s).lnk := by
  unfold setHead; (try dsimp only); (repeat' split) <;> first | (with_reducible exact hP) | (simp +contextual (maxDischargeDepth := 12) [hP]; done)

@[simp] theorem wireDone_sound (m : Meas) (s : State) (hP : Lnk.Sound s.lnk) : Lnk.Sound (wireDone m s).lnk := by
  unfold wireDone; (try dsimp only); (repeat' split) <;> first | (with_reducible exact hP) | (simp +contextual (maxDischargeDepth := 12) [hP]; done)

@[simp] theorem wireMissed_sound (s : State) (hP : Lnk.Sound s.lnk) : Lnk.Sound (wireMissed s).lnk := by
  unfold wireMissed; (try dsimp only); (repeat' split) <;> first | (with_reducible exact hP) | (simp +contextual (maxDischargeDepth := 12) [hP]; done)

@[simp] theorem pullOutcome_sound (res : Nat → Nat × Nat × Nat) (s : State) (hP : Lnk.Sound s.lnk) : Lnk.Sound (pullOutcome res s).lnk := by
  unfold pullOutcome; (try dsimp only); (repeat' split) <;> first | (with_reducible exact hP) | (simp +contextual (maxDischargeDepth := 12) [hP]; done)

@[simp] theorem hookMissed_sound (s : State) (hP : Lnk.Sound s.lnk) : Lnk.Sound (hookMissed s).lnk := by
  unfold hookMissed; (try dsimp only); (repeat' split) <;> first | (with_reducible exact hP) | (simp +contextual (maxDischargeDepth := 12) [hP]; done)

@[simp] theorem answerCmd_sound (cmd : HeadCmd) (c : Completion) (s : State) (hP : Lnk.Sound s.lnk) : Lnk.Sound (answerCmd cmd c s).lnk := by
  unfold answerCmd; (try dsimp only); (repeat' split) <;> first | (with_reducible exact hP) | (simp +contextual (maxDischargeDepth := 12) [hP]; done)

@[simp] theorem endClaims_sound (s : State) (hP : Lnk.Sound s.lnk) : Lnk.Sound (endClaims s).lnk := by
  unfold endClaims; (try dsimp only); (repeat' split) <;> first | (with_reducible exact hP) | (simp +contextual (maxDischargeDepth := 12) [hP]; done)

@[simp] theorem endCmd_sound (o : Outstanding) (c : Completion) (s : State) (hP : Lnk.Sound s.lnk) : Lnk.Sound (endCmd o c s).lnk := by
  unfold endCmd; (try dsimp only); (repeat' split) <;> first | (with_reducible exact hP) | (simp +contextual (maxDischargeDepth := 12) [hP]; done)

@[simp] theorem headAnswer_sound (tag : Byte) (c : Completion) (s : State) (hP : Lnk.Sound s.lnk) : Lnk.Sound (headAnswer tag c s).lnk := by
  unfold headAnswer; (try dsimp only); (repeat' split) <;> first | (with_reducible exact hP) | (simp +contextual (maxDischargeDepth := 12) [hP]; done)

@[simp] theorem headExpired_sound (s : State) (hP : Lnk.Sound s.lnk) : Lnk.Sound (headExpired s).lnk := by
  unfold headExpired; (try dsimp only); (repeat' split) <;> first | (with_reducible exact hP) | (simp +contextual (maxDischargeDepth := 12) [hP]; done)

@[simp] theorem handClaim_sound (e : OwnClaim) (s : State) (hP : Lnk.Sound s.lnk) : Lnk.Sound (handClaim e s).lnk := by
  unfold handClaim; (try dsimp only); (repeat' split) <;> first | (with_reducible exact hP) | (simp +contextual (maxDischargeDepth := 12) [hP]; done)

@[simp] theorem closeWork_sound (f : WorkEntry → Bool) (s : State) (hP : Lnk.Sound s.lnk) : Lnk.Sound (closeWork f s).lnk := by
  unfold closeWork; (try dsimp only); (repeat' split) <;> first | (with_reducible exact hP) | (simp +contextual (maxDischargeDepth := 12) [hP]; done)

@[simp] theorem closeClaims_sound (f : Nat → Bool) (s : State) (hP : Lnk.Sound s.lnk) : Lnk.Sound (closeClaims f s).lnk := by
  unfold closeClaims; (try dsimp only); (repeat' split) <;> first | (with_reducible exact hP) | (simp +contextual (maxDischargeDepth := 12) [hP]; done)

@[simp] theorem loseClaim_sound (w u g : Nat) (s : State) (hP : Lnk.Sound s.lnk) : Lnk.Sound (loseClaim w u g s).lnk := by
  unfold loseClaim; (try dsimp only); (repeat' split) <;> first | (with_reducible exact hP) | (simp +contextual (maxDischargeDepth := 12) [hP]; done)

@[simp] theorem stopWork_sound (s : State) (hP : Lnk.Sound s.lnk) : Lnk.Sound (stopWork s).lnk := by
  unfold stopWork; (try dsimp only); (repeat' split) <;> first | (with_reducible exact hP) | (simp +contextual (maxDischargeDepth := 12) [hP]; done)

@[simp] theorem indexPark_sound (s : State) (hP : Lnk.Sound s.lnk) : Lnk.Sound (indexPark s).lnk := by
  unfold indexPark; (try dsimp only); (repeat' split) <;> first | (with_reducible exact hP) | (simp +contextual (maxDischargeDepth := 12) [hP]; done)

@[simp] theorem takePause_sound (s : State) (hP : Lnk.Sound s.lnk) : Lnk.Sound (takePause s).lnk := by
  unfold takePause; (try dsimp only); (repeat' split) <;> first | (with_reducible exact hP) | (simp +contextual (maxDischargeDepth := 12) [hP]; done)

@[simp] theorem takeResume_sound (s : State) (hP : Lnk.Sound s.lnk) : Lnk.Sound (takeResume s).lnk := by
  unfold takeResume; (try dsimp only); (repeat' split) <;> first | (with_reducible exact hP) | (simp +contextual (maxDischargeDepth := 12) [hP]; done)

@[simp] theorem takeClear_sound (st : BState) (s : State) (hP : Lnk.Sound s.lnk) : Lnk.Sound (takeClear st s).lnk := by
  unfold takeClear; (try dsimp only); (repeat' split) <;> first | (with_reducible exact hP) | (simp +contextual (maxDischargeDepth := 12) [hP]; done)

@[simp] theorem restartBsq_sound (s : State) (hP : Lnk.Sound s.lnk) : Lnk.Sound (restartBsq s).lnk := by
  unfold restartBsq; (try dsimp only); (repeat' split) <;> first | (with_reducible exact hP) | (simp +contextual (maxDischargeDepth := 12) [hP]; done)

@[simp] theorem restBsq_sound (s : State) (hP : Lnk.Sound s.lnk) : Lnk.Sound (restBsq s).lnk := by
  unfold restBsq; (try dsimp only); (repeat' split) <;> first | (with_reducible exact hP) | (simp +contextual (maxDischargeDepth := 12) [hP]; done)

@[simp] theorem settle_sound (always : Bool) (old : State) (s : State) (hP : Lnk.Sound s.lnk) : Lnk.Sound (settle always old s).lnk := by
  unfold settle; (try dsimp only); (repeat' split) <;> first | (with_reducible exact hP) | (simp +contextual (maxDischargeDepth := 12) [hP]; done)

@[simp] theorem sense_sound (lv : Levels) (s : State) (hP : Lnk.Sound s.lnk) : Lnk.Sound (sense lv s).lnk := by
  unfold sense; (try dsimp only); (repeat' split) <;> first | (with_reducible exact hP) | (simp +contextual (maxDischargeDepth := 12) [hP]; done)

@[simp] theorem setClamp_sound (c : ClampSt) (s : State) (hP : Lnk.Sound s.lnk) : Lnk.Sound (setClamp c s).lnk := by
  unfold setClamp; (try dsimp only); (repeat' split) <;> first | (with_reducible exact hP) | (simp +contextual (maxDischargeDepth := 12) [hP]; done)

@[simp] theorem tellOpen_sound (b : Bool) (s : State) (hP : Lnk.Sound s.lnk) : Lnk.Sound (tellOpen b s).lnk := by
  unfold tellOpen; (try dsimp only); (repeat' split) <;> first | (with_reducible exact hP) | (simp +contextual (maxDischargeDepth := 12) [hP]; done)

@[simp] theorem openClamp_sound (s : State) (hP : Lnk.Sound s.lnk) : Lnk.Sound (openClamp s).lnk := by
  unfold openClamp; (try dsimp only); (repeat' split) <;> first | (with_reducible exact hP) | (simp +contextual (maxDischargeDepth := 12) [hP]; done)

@[simp] theorem closeClamp_sound (s : State) (hP : Lnk.Sound s.lnk) : Lnk.Sound (closeClamp s).lnk := by
  unfold closeClamp; (try dsimp only); (repeat' split) <;> first | (with_reducible exact hP) | (simp +contextual (maxDischargeDepth := 12) [hP]; done)

@[simp] theorem takeUpClamp_sound (s : State) (hP : Lnk.Sound s.lnk) : Lnk.Sound (takeUpClamp s).lnk := by
  unfold takeUpClamp; (try dsimp only); (repeat' split) <;> first | (with_reducible exact hP) | (simp +contextual (maxDischargeDepth := 12) [hP]; done)

@[simp] theorem clearClamp_sound (s : State) (hP : Lnk.Sound s.lnk) : Lnk.Sound (clearClamp s).lnk := by
  unfold clearClamp; (try dsimp only); (repeat' split) <;> first | (with_reducible exact hP) | (simp +contextual (maxDischargeDepth := 12) [hP]; done)

@[simp] theorem startBeam_sound (s : State) (hP : Lnk.Sound s.lnk) : Lnk.Sound (startBeam s).lnk := by
  unfold startBeam; (try dsimp only); (repeat' split) <;> first | (with_reducible exact hP) | (simp +contextual (maxDischargeDepth := 12) [hP]; done)

@[simp] theorem motionNote_sound (m : Bool) (n : Note) (s : State) (hP : Lnk.Sound s.lnk) : Lnk.Sound (motionNote m n s).lnk := by
  unfold motionNote; (try dsimp only); (repeat' split) <;> first | (with_reducible exact hP) | (simp +contextual (maxDischargeDepth := 12) [hP]; done)

@[simp] theorem faultBeam_sound (cause : Nat) (s : State) (hP : Lnk.Sound s.lnk) : Lnk.Sound (faultBeam cause s).lnk := by
  unfold faultBeam; (try dsimp only); (repeat' split) <;> first | (with_reducible exact hP) | (simp +contextual (maxDischargeDepth := 12) [hP]; done)

@[simp] theorem indexOpens_sound (s : State) (hP : Lnk.Sound s.lnk) : Lnk.Sound (indexOpens s).lnk := by
  unfold indexOpens; (try dsimp only); (repeat' split) <;> first | (with_reducible exact hP) | (simp +contextual (maxDischargeDepth := 12) [hP]; done)

@[simp] theorem indexCloses_sound (s : State) (hP : Lnk.Sound s.lnk) : Lnk.Sound (indexCloses s).lnk := by
  unfold indexCloses; (try dsimp only); (repeat' split) <;> first | (with_reducible exact hP) | (simp +contextual (maxDischargeDepth := 12) [hP]; done)

@[simp] theorem putElev_sound (m : MagName) (e : Elev) (s : State) (hP : Lnk.Sound s.lnk) : Lnk.Sound (putElev m e s).lnk := by
  unfold putElev; (try dsimp only); (repeat' split) <;> first | (with_reducible exact hP) | (simp +contextual (maxDischargeDepth := 12) [hP]; done)

@[simp] theorem chooseTarget_sound (m : MagName) (s : State) (hP : Lnk.Sound s.lnk) : Lnk.Sound (chooseTarget m s).lnk := by
  unfold chooseTarget; (try dsimp only); (repeat' split) <;> first | (with_reducible exact hP) | (simp +contextual (maxDischargeDepth := 12) [hP]; done)

@[simp] theorem scanEnd_sound (m : MagName) (s : State) (hP : Lnk.Sound s.lnk) : Lnk.Sound (scanEnd m s).lnk := by
  unfold scanEnd; (try dsimp only); (repeat' split) <;> first | (with_reducible exact hP) | (simp +contextual (maxDischargeDepth := 12) [hP]; done)

@[simp] theorem scanSlot_sound (m : MagName) (i : Nat) (s : State) (hP : Lnk.Sound s.lnk) : Lnk.Sound (scanSlot m i s).lnk := by
  unfold scanSlot; (try dsimp only); (repeat' split) <;> first | (with_reducible exact hP) | (simp +contextual (maxDischargeDepth := 12) [hP]; done)

@[simp] theorem homeFound_sound (m : MagName) (s : State) (hP : Lnk.Sound s.lnk) : Lnk.Sound (homeFound m s).lnk := by
  unfold homeFound; (try dsimp only); (repeat' split) <;> first | (with_reducible exact hP) | (simp +contextual (maxDischargeDepth := 12) [hP]; done)

@[simp] theorem startHoming_sound (m : MagName) (s : State) (hP : Lnk.Sound s.lnk) : Lnk.Sound (startHoming m s).lnk := by
  unfold startHoming; (try dsimp only); (repeat' split) <;> first | (with_reducible exact hP) | (simp +contextual (maxDischargeDepth := 12) [hP]; done)

@[simp] theorem takeUpElev_sound (m : MagName) (s : State) (hP : Lnk.Sound s.lnk) : Lnk.Sound (takeUpElev m s).lnk := by
  unfold takeUpElev; (try dsimp only); (repeat' split) <;> first | (with_reducible exact hP) | (simp +contextual (maxDischargeDepth := 12) [hP]; done)

@[simp] theorem stepElev_sound (m : MagName) (s : State) (hP : Lnk.Sound s.lnk) : Lnk.Sound (stepElev m s).lnk := by
  unfold stepElev; (try dsimp only); (repeat' split) <;> first | (with_reducible exact hP) | (simp +contextual (maxDischargeDepth := 12) [hP]; done)

@[simp] theorem putPush_sound (p : PusherName) (x : Push) (s : State) (hP : Lnk.Sound s.lnk) : Lnk.Sound (putPush p x s).lnk := by
  unfold putPush; (try dsimp only); (repeat' split) <;> first | (with_reducible exact hP) | (simp +contextual (maxDischargeDepth := 12) [hP]; done)

@[simp] theorem faultPush_sound (p : PusherName) (s : State) (hP : Lnk.Sound s.lnk) : Lnk.Sound (faultPush p s).lnk := by
  unfold faultPush; (try dsimp only); (repeat' split) <;> first | (with_reducible exact hP) | (simp +contextual (maxDischargeDepth := 12) [hP]; done)

@[simp] theorem takeUpPush_sound (p : PusherName) (s : State) (hP : Lnk.Sound s.lnk) : Lnk.Sound (takeUpPush p s).lnk := by
  unfold takeUpPush; (try dsimp only); (repeat' split) <;> first | (with_reducible exact hP) | (simp +contextual (maxDischargeDepth := 12) [hP]; done)

@[simp] theorem countMissed_sound (id : Nat) (s : State) (hP : Lnk.Sound s.lnk) : Lnk.Sound (countMissed id s).lnk := by
  unfold countMissed; (try dsimp only); (repeat' split) <;> first | (with_reducible exact hP) | (simp +contextual (maxDischargeDepth := 12) [hP]; done)

@[simp] theorem report_sound (p : PusherName) (n : Note) (s : State) (hP : Lnk.Sound s.lnk) : Lnk.Sound (report p n s).lnk := by
  unfold report; (try dsimp only); (repeat' split) <;> first | (with_reducible exact hP) | (simp +contextual (maxDischargeDepth := 12) [hP]; done)

@[simp] theorem finishPush_sound (p : PusherName) (s : State) (hP : Lnk.Sound s.lnk) : Lnk.Sound (finishPush p s).lnk := by
  unfold finishPush; (try dsimp only); (repeat' split) <;> first | (with_reducible exact hP) | (simp +contextual (maxDischargeDepth := 12) [hP]; done)

@[simp] theorem pushAnswered_sound (applied : Bool) (n : Note) (p : PusherName) (s : State) (hP : Lnk.Sound s.lnk) : Lnk.Sound (pushAnswered applied n p s).lnk := by
  unfold pushAnswered; (try dsimp only); (repeat' split) <;> first | (with_reducible exact hP) | (simp +contextual (maxDischargeDepth := 12) [hP]; done)

@[simp] theorem takeSeated_sound (s : State) (hP : Lnk.Sound s.lnk) : Lnk.Sound (takeSeated s).lnk := by
  unfold takeSeated; (try dsimp only); (repeat' split) <;> first | (with_reducible exact hP) | (simp +contextual (maxDischargeDepth := 12) [hP]; done)

@[simp] theorem takeRemoved_sound (s : State) (hP : Lnk.Sound s.lnk) : Lnk.Sound (takeRemoved s).lnk := by
  unfold takeRemoved; (try dsimp only); (repeat' split) <;> first | (with_reducible exact hP) | (simp +contextual (maxDischargeDepth := 12) [hP]; done)

@[simp] theorem takeUpFeed_sound (s : State) (hP : Lnk.Sound s.lnk) : Lnk.Sound (takeUpFeed s).lnk := by
  unfold takeUpFeed; (try dsimp only); (repeat' split) <;> first | (with_reducible exact hP) | (simp +contextual (maxDischargeDepth := 12) [hP]; done)

@[simp] theorem takeUpUnload_sound (s : State) (hP : Lnk.Sound s.lnk) : Lnk.Sound (takeUpUnload s).lnk := by
  unfold takeUpUnload; (try dsimp only); (repeat' split) <;> first | (with_reducible exact hP) | (simp +contextual (maxDischargeDepth := 12) [hP]; done)

@[simp] theorem takeUp_sound (s : State) (hP : Lnk.Sound s.lnk) : Lnk.Sound (takeUp s).lnk := by
  unfold takeUp; (try dsimp only); (repeat' split) <;> first | (with_reducible exact hP) | (simp +contextual (maxDischargeDepth := 12) [hP]; done)

@[simp] theorem giveUp_sound (s : State) (hP : Lnk.Sound s.lnk) : Lnk.Sound (giveUp s).lnk := by
  unfold giveUp; (try dsimp only); (repeat' split) <;> first | (with_reducible exact hP) | (simp +contextual (maxDischargeDepth := 12) [hP]; done)

@[simp] theorem restElev_sound (m : MagName) (s : State) (hP : Lnk.Sound s.lnk) : Lnk.Sound (restElev m s).lnk :=
  putElev_sound _ _ _ hP

@[simp] theorem restElevs_sound (s : State) (hP : Lnk.Sound s.lnk) : Lnk.Sound (restElevs s).lnk :=
  restElev_sound _ _ (restElev_sound _ _ (restElev_sound _ _ hP))

@[simp] theorem restartTmu_sound (s : State) (hP : Lnk.Sound s.lnk) : Lnk.Sound (restartTmu s).lnk := by
  unfold restartTmu; (try dsimp only); (repeat' split) <;> first | (with_reducible exact hP) | (simp +contextual (maxDischargeDepth := 12) [hP]; done)

@[simp] theorem judgeMags_sound (s : State) (hP : Lnk.Sound s.lnk) : Lnk.Sound (judgeMags s).lnk := by
  unfold judgeMags; (try dsimp only); (repeat' split) <;> first | (with_reducible exact hP) | (simp +contextual (maxDischargeDepth := 12) [hP]; done)

@[simp] theorem settleClampWait_sound (s : State) (hP : Lnk.Sound s.lnk) : Lnk.Sound (settleClampWait s).lnk := by
  unfold settleClampWait; (try dsimp only); (repeat' split) <;> first | (with_reducible exact hP) | (simp +contextual (maxDischargeDepth := 12) [hP]; done)

@[simp] theorem closeClass_sound (c : Nat) (s : State) (hP : Lnk.Sound s.lnk) : Lnk.Sound (closeClass c s).lnk := by
  unfold closeClass; (try dsimp only); (repeat' split) <;> first | (with_reducible exact hP) | (simp +contextual (maxDischargeDepth := 12) [hP]; done)

@[simp] theorem judgeHolds_sound (failing : Bool) (old : State) (s : State) (hP : Lnk.Sound s.lnk) : Lnk.Sound (judgeHolds failing old s).lnk := by
  unfold judgeHolds; (try dsimp only); (repeat' split) <;> first | (with_reducible exact hP) | (simp +contextual (maxDischargeDepth := 12) [hP]; done)

@[simp] theorem reView_sound (failing : Bool) (old : State) (s : State) (hP : Lnk.Sound s.lnk) : Lnk.Sound (reView failing old s).lnk := by
  unfold reView; (try dsimp only); (repeat' split) <;> first | (with_reducible exact hP) | (simp +contextual (maxDischargeDepth := 12) [hP]; done)

@[simp] theorem moveLost_sound (s : State) (hP : Lnk.Sound s.lnk) : Lnk.Sound (moveLost s).lnk := by
  unfold moveLost; (try dsimp only); (repeat' split) <;> first | (with_reducible exact hP) | (simp +contextual (maxDischargeDepth := 12) [hP]; done)

@[simp] theorem claimApplied_sound (w u g : Nat) (s : State) (hP : Lnk.Sound s.lnk) : Lnk.Sound (claimApplied w u g s).lnk := by
  unfold claimApplied; (try dsimp only); (repeat' split) <;> first | (with_reducible exact hP) | (simp +contextual (maxDischargeDepth := 12) [hP]; done)

@[simp] theorem indexStarted_sound (s : State) (hP : Lnk.Sound s.lnk) : Lnk.Sound (indexStarted s).lnk := by
  unfold indexStarted; (try dsimp only); (repeat' split) <;> first | (with_reducible exact hP) | (simp +contextual (maxDischargeDepth := 12) [hP]; done)

@[simp] theorem indexEnded_sound (shift : Bool) (s : State) (hP : Lnk.Sound s.lnk) : Lnk.Sound (indexEnded shift s).lnk := by
  unfold indexEnded; (try dsimp only); (repeat' split) <;> first | (with_reducible exact hP) | (simp +contextual (maxDischargeDepth := 12) [hP]; done)

@[simp] theorem retarget_sound (m : MagName) (s : State) (hP : Lnk.Sound s.lnk) : Lnk.Sound (retarget m s).lnk := by
  unfold retarget; (try dsimp only); (repeat' split) <;> first | (with_reducible exact hP) | (simp +contextual (maxDischargeDepth := 12) [hP]; done)

@[simp] theorem reseek_sound (m : MagName) (s : State) (hP : Lnk.Sound s.lnk) : Lnk.Sound (reseek m s).lnk := by
  unfold reseek; (try dsimp only); (repeat' split) <;> first | (with_reducible exact hP) | (simp +contextual (maxDischargeDepth := 12) [hP]; done)

@[simp] theorem loadedAnswered_sound (m : Nat) (ev : Nat) (s : State) (hP : Lnk.Sound s.lnk) : Lnk.Sound (loadedAnswered m ev s).lnk := by
  unfold loadedAnswered; (try dsimp only); (repeat' split) <;> first | (with_reducible exact hP) | (simp +contextual (maxDischargeDepth := 12) [hP]; done)

@[simp] theorem pushersAnswered_sound (applied : Bool) (n : Note) (s : State) (hP : Lnk.Sound s.lnk) : Lnk.Sound (pushersAnswered applied n s).lnk := by
  unfold pushersAnswered; (try dsimp only); (repeat' split) <;> first | (with_reducible exact hP) | (simp +contextual (maxDischargeDepth := 12) [hP]; done)

@[simp] theorem endUntestable_sound (n : PullNote) (s : State) (hP : Lnk.Sound s.lnk) : Lnk.Sound (endUntestable n s).lnk := by
  unfold endUntestable; (try dsimp only); (repeat' split) <;> first | (with_reducible exact hP) | (simp +contextual (maxDischargeDepth := 12) [hP]; done)

@[simp] theorem pullApplied_sound (p : Plan) (own : Bool) (sender index : Nat) (n : PullNote) (s : State) (hP : Lnk.Sound s.lnk) : Lnk.Sound (pullApplied p own sender index n s).lnk := by
  unfold pullApplied; (try dsimp only); (repeat' split) <;> first | (with_reducible exact hP) | (simp +contextual (maxDischargeDepth := 12) [hP]; done)

@[simp] theorem stripGone_sound (id : Nat) (s : State) (hP : Lnk.Sound s.lnk) : Lnk.Sound (stripGone id s).lnk := by
  unfold stripGone; (try dsimp only); (repeat' split) <;> first | (with_reducible exact hP) | (simp +contextual (maxDischargeDepth := 12) [hP]; done)

@[simp] theorem tellApplied_sound (p : Plan) (own : Bool) (sender : Nat) (t t' : Table) (n : Note) (s : State) (hP : Lnk.Sound s.lnk) : Lnk.Sound (tellApplied p own sender t t' n s).lnk := by
  unfold tellApplied; (try dsimp only); (repeat' split) <;> first | (with_reducible exact hP) | (simp +contextual (maxDischargeDepth := 12) [hP]; done)

@[simp] theorem tellRefused_sound (n : Note) (s : State) (hP : Lnk.Sound s.lnk) : Lnk.Sound (tellRefused n s).lnk := by
  unfold tellRefused; (try dsimp only); (repeat' split) <;> first | (with_reducible exact hP) | (simp +contextual (maxDischargeDepth := 12) [hP]; done)

@[simp] theorem tellUnread_sound (n : Note) (s : State) (hP : Lnk.Sound s.lnk) : Lnk.Sound (tellUnread n s).lnk := by
  unfold tellUnread; (try dsimp only); (repeat' split) <;> first | (with_reducible exact hP) | (simp +contextual (maxDischargeDepth := 12) [hP]; done)

@[simp] theorem putTable_sound (t : Table) (s : State) (hP : Lnk.Sound s.lnk) : Lnk.Sound (putTable t s).lnk := by
  unfold putTable; (try dsimp only); (repeat' split) <;> first | (with_reducible exact hP) | (simp +contextual (maxDischargeDepth := 12) [hP]; done)

@[simp] theorem noteApplied_sound (p : Plan) (c : NoteCtx) (t t' : Table) (n : Note) (s : State) (hP : Lnk.Sound s.lnk) : Lnk.Sound (noteApplied p c t t' n s).lnk := by
  unfold noteApplied; (try dsimp only); (repeat' split) <;> first | (with_reducible exact hP) | (simp +contextual (maxDischargeDepth := 12) [hP]; done)

@[simp] theorem noteRefused_sound (c : NoteCtx) (n : Note) (s : State) (hP : Lnk.Sound s.lnk) : Lnk.Sound (noteRefused c n s).lnk := by
  unfold noteRefused; (try dsimp only); (repeat' split) <;> first | (with_reducible exact hP) | (simp +contextual (maxDischargeDepth := 12) [hP]; done)

@[simp] theorem copierNote_sound (p : Plan) (c : NoteCtx) (t : Table) (n : Note) (s : State) (hP : Lnk.Sound s.lnk) : Lnk.Sound (copierNote p c t n s).lnk := by
  unfold copierNote; (try dsimp only); (repeat' split) <;> first | (with_reducible exact hP) | (simp +contextual (maxDischargeDepth := 12) [hP]; done)

@[simp] theorem handNote_sound (f : Frame) (n : Note) (s : State) (hP : Lnk.Sound s.lnk) : Lnk.Sound (handNote f n s).lnk := by
  unfold handNote; (try dsimp only); (repeat' split) <;> first | (with_reducible exact hP) | (simp +contextual (maxDischargeDepth := 12) [hP]; done)

@[simp] theorem enterResync_sound (p : Plan) (s : State) (hP : Lnk.Sound s.lnk) : Lnk.Sound (enterResync p s).lnk := by
  unfold enterResync; (try dsimp only); (repeat' split) <;> first | (with_reducible exact hP) | (simp +contextual (maxDischargeDepth := 12) [hP]; done)

@[simp] theorem tableCompleted_sound (s : State) (hP : Lnk.Sound s.lnk) : Lnk.Sound (tableCompleted s).lnk := by
  unfold tableCompleted; (try dsimp only); (repeat' split) <;> first | (with_reducible exact hP) | (simp +contextual (maxDischargeDepth := 12) [hP]; done)

@[simp] theorem leaveResync_sound (s : State) (hP : Lnk.Sound s.lnk) : Lnk.Sound (leaveResync s).lnk := by
  unfold leaveResync; (try dsimp only); (repeat' split) <;> first | (with_reducible exact hP) | (simp +contextual (maxDischargeDepth := 12) [hP]; done)

@[simp] theorem checkClaims_sound (w lo : Nat) (s : State) (hP : Lnk.Sound s.lnk) : Lnk.Sound (checkClaims w lo s).lnk := by
  unfold checkClaims; (try dsimp only); (repeat' split) <;> first | (with_reducible exact hP) | (simp +contextual (maxDischargeDepth := 12) [hP]; done)

@[simp] theorem retargetCopied_sound (n : Nat) (s : State) (hP : Lnk.Sound s.lnk) : Lnk.Sound (retargetCopied n s).lnk := by
  unfold retargetCopied; (try dsimp only); (repeat' split) <;> first | (with_reducible exact hP) | (simp +contextual (maxDischargeDepth := 12) [hP]; done)

@[simp] theorem takeSection_sound (p : Plan) (n : Nat) (body : List Byte) (s : State) (hP : Lnk.Sound s.lnk) : Lnk.Sound (takeSection p n body s).lnk := by
  unfold takeSection; (try dsimp only); (repeat' split) <;> first | (with_reducible exact hP) | (simp +contextual (maxDischargeDepth := 12) [hP]; done)

@[simp] theorem handHeader_sound (f : Frame) (s : State) (hP : Lnk.Sound s.lnk) : Lnk.Sound (handHeader f s).lnk := by
  unfold handHeader; (try dsimp only); (repeat' split) <;> first | (with_reducible exact hP) | (simp +contextual (maxDischargeDepth := 12) [hP]; done)

@[simp] theorem unreadableHeard_sound (s : State) (hP : Lnk.Sound s.lnk) : Lnk.Sound (unreadableHeard s).lnk := by
  unfold unreadableHeard; (try dsimp only); (repeat' split) <;> first | (with_reducible exact hP) | (simp +contextual (maxDischargeDepth := 12) [hP]; done)

@[simp] theorem absence_sound (k : Nat) (s : State) (hP : Lnk.Sound s.lnk) : Lnk.Sound (absence k s).lnk := by
  unfold absence; (try dsimp only); (repeat' split) <;> first | (with_reducible exact hP) | (simp +contextual (maxDischargeDepth := 12) [hP]; done)

@[simp] theorem resyncExpired_sound (s : State) (hP : Lnk.Sound s.lnk) : Lnk.Sound (resyncExpired s).lnk := by
  unfold resyncExpired; (try dsimp only); (repeat' split) <;> first | (with_reducible exact hP) | (simp +contextual (maxDischargeDepth := 12) [hP]; done)

@[simp] theorem discardTable_sound (s : State) (hP : Lnk.Sound s.lnk) : Lnk.Sound (discardTable s).lnk := by
  unfold discardTable; (try dsimp only); (repeat' split) <;> first | (with_reducible exact hP) | (simp +contextual (maxDischargeDepth := 12) [hP]; done)

@[simp] theorem beginGather_sound (s : State) (hP : Lnk.Sound s.lnk) : Lnk.Sound (beginGather s).lnk := by
  unfold beginGather; (try dsimp only); (repeat' split) <;> first | (with_reducible exact hP) | (simp +contextual (maxDischargeDepth := 12) [hP]; done)

@[simp] theorem startFresh_sound (s : State) (hP : Lnk.Sound s.lnk) : Lnk.Sound (startFresh s).lnk := by
  unfold startFresh; (try dsimp only); (repeat' split) <;> first | (with_reducible exact hP) | (simp +contextual (maxDischargeDepth := 12) [hP]; done)

@[simp] theorem becomeActive_sound (s : State) (hP : Lnk.Sound s.lnk) : Lnk.Sound (becomeActive s).lnk := by
  unfold becomeActive; (try dsimp only); (repeat' split) <;> first | (with_reducible exact hP) | (simp +contextual (maxDischargeDepth := 12) [hP]; done)

@[simp] theorem checkJoin_sound (s : State) (hP : Lnk.Sound s.lnk) : Lnk.Sound (checkJoin s).lnk := by
  unfold checkJoin; (try dsimp only); (repeat' split) <;> first | (with_reducible exact hP) | (simp +contextual (maxDischargeDepth := 12) [hP]; done)

@[simp] theorem countJoin_sound (gath : Bool) (s : State) (hP : Lnk.Sound s.lnk) : Lnk.Sound (countJoin gath s).lnk := by
  unfold countJoin; (try dsimp only); (repeat' split) <;> first | (with_reducible exact hP) | (simp +contextual (maxDischargeDepth := 12) [hP]; done)

@[simp] theorem watches_sound (sender due res : Bool) (s : State) (hP : Lnk.Sound s.lnk) : Lnk.Sound (watches sender due res s).lnk := by
  unfold watches; (try dsimp only); (repeat' split) <;> first | (with_reducible exact hP) | (simp +contextual (maxDischargeDepth := 12) [hP]; done)

@[simp] theorem clearStaging_sound (s : State) (hP : Lnk.Sound s.lnk) : Lnk.Sound (clearStaging s).lnk := by
  unfold clearStaging; (try dsimp only); (repeat' split) <;> first | (with_reducible exact hP) | (simp +contextual (maxDischargeDepth := 12) [hP]; done)

@[simp] theorem discardPlan_sound (s : State) (hP : Lnk.Sound s.lnk) : Lnk.Sound (discardPlan s).lnk := by
  unfold discardPlan; (try dsimp only); (repeat' split) <;> first | (with_reducible exact hP) | (simp +contextual (maxDischargeDepth := 12) [hP]; done)

@[simp] theorem holdPlan_sound (p : Plan) (s : State) (hP : Lnk.Sound s.lnk) : Lnk.Sound (holdPlan p s).lnk := by
  unfold holdPlan; (try dsimp only); (repeat' split) <;> first | (with_reducible exact hP) | (simp +contextual (maxDischargeDepth := 12) [hP]; done)

@[simp] theorem refusePlan_sound (s : State) (hP : Lnk.Sound s.lnk) : Lnk.Sound (refusePlan s).lnk := by
  unfold refusePlan; (try dsimp only); (repeat' split) <;> first | (with_reducible exact hP) | (simp +contextual (maxDischargeDepth := 12) [hP]; done)

@[simp] theorem tryComplete_sound (s : State) (hP : Lnk.Sound s.lnk) : Lnk.Sound (tryComplete s).lnk := by
  unfold tryComplete; (try dsimp only); (repeat' split) <;> first | (with_reducible exact hP) | (simp +contextual (maxDischargeDepth := 12) [hP]; done)

@[simp] theorem stagePlan_sound (id off : Nat) (bs : List Byte) (s : State) (hP : Lnk.Sound s.lnk) : Lnk.Sound (stagePlan id off bs s).lnk := by
  unfold stagePlan; (try dsimp only); (repeat' split) <;> first | (with_reducible exact hP) | (simp +contextual (maxDischargeDepth := 12) [hP]; done)

@[simp] theorem countIgnored_sound (s : State) (hP : Lnk.Sound s.lnk) : Lnk.Sound (countIgnored s).lnk := by
  unfold countIgnored; (try dsimp only); (repeat' split) <;> first | (with_reducible exact hP) | (simp +contextual (maxDischargeDepth := 12) [hP]; done)

@[simp] theorem handlePlan_sound (id off : Nat) (bs : List Byte) (s : State) (hP : Lnk.Sound s.lnk) : Lnk.Sound (handlePlan id off bs s).lnk := by
  unfold handlePlan; (try dsimp only); (repeat' split) <;> first | (with_reducible exact hP) | (simp +contextual (maxDischargeDepth := 12) [hP]; done)

@[simp] theorem compareTarget_sound (s : State) (hP : Lnk.Sound s.lnk) : Lnk.Sound (compareTarget s).lnk := by
  unfold compareTarget; (try dsimp only); (repeat' split) <;> first | (with_reducible exact hP) | (simp +contextual (maxDischargeDepth := 12) [hP]; done)

@[simp] theorem endAbsent_sound (s : State) (hP : Lnk.Sound s.lnk) : Lnk.Sound (endAbsent s).lnk := by
  unfold endAbsent; (try dsimp only); (repeat' split) <;> first | (with_reducible exact hP) | (simp +contextual (maxDischargeDepth := 12) [hP]; done)

@[simp] theorem endResync_sound (s : State) (hP : Lnk.Sound s.lnk) : Lnk.Sound (endResync s).lnk := by
  unfold endResync; (try dsimp only); (repeat' split) <;> first | (with_reducible exact hP) | (simp +contextual (maxDischargeDepth := 12) [hP]; done)

@[simp] theorem enterListen_sound (silenced : Bool) (s : State) (hP : Lnk.Sound s.lnk) : Lnk.Sound (enterListen silenced s).lnk := by
  unfold enterListen; (try dsimp only); (repeat' split) <;> first | (with_reducible exact hP) | (simp +contextual (maxDischargeDepth := 12) [hP]; done)

@[simp] theorem leaveListen_sound (s : State) (hP : Lnk.Sound s.lnk) : Lnk.Sound (leaveListen s).lnk := by
  unfold leaveListen; (try dsimp only); (repeat' split) <;> first | (with_reducible exact hP) | (simp +contextual (maxDischargeDepth := 12) [hP]; done)

@[simp] theorem loseFeed_sound (s : State) (hP : Lnk.Sound s.lnk) : Lnk.Sound (loseFeed s).lnk := by
  unfold loseFeed; (try dsimp only); (repeat' split) <;> first | (with_reducible exact hP) | (simp +contextual (maxDischargeDepth := 12) [hP]; done)

@[simp] theorem loseUnload_sound (s : State) (hP : Lnk.Sound s.lnk) : Lnk.Sound (loseUnload s).lnk := by
  unfold loseUnload; (try dsimp only); (repeat' split) <;> first | (with_reducible exact hP) | (simp +contextual (maxDischargeDepth := 12) [hP]; done)

@[simp] theorem loseDuties_sound (s : State) (hP : Lnk.Sound s.lnk) : Lnk.Sound (loseDuties s).lnk := by
  unfold loseDuties; (try dsimp only); (repeat' split) <;> first | (with_reducible exact hP) | (simp +contextual (maxDischargeDepth := 12) [hP]; done)

@[simp] theorem dropToJoining_sound (s : State) (hP : Lnk.Sound s.lnk) : Lnk.Sound (dropToJoining s).lnk := by
  unfold dropToJoining; (try dsimp only); (repeat' split) <;> first | (with_reducible exact hP) | (simp +contextual (maxDischargeDepth := 12) [hP]; done)

@[simp] theorem planConflict_sound (f : Frame) (s : State) (hP : Lnk.Sound s.lnk) : Lnk.Sound (planConflict f s).lnk := by
  unfold planConflict; (try dsimp only); (repeat' split) <;> first | (with_reducible exact hP) | (simp +contextual (maxDischargeDepth := 12) [hP]; done)

@[simp] theorem beginRestartCheck_sound (s : State) (hP : Lnk.Sound s.lnk) : Lnk.Sound (beginRestartCheck s).lnk := by
  unfold beginRestartCheck; simp [hP]

@[simp] theorem restProgress_sound (s : State) (hP : Lnk.Sound s.lnk) : Lnk.Sound (restProgress s).lnk := by
  unfold restProgress; (try dsimp only); (repeat' split) <;> first | (with_reducible exact hP) | (simp +contextual (maxDischargeDepth := 12) [hP]; done)

@[simp] theorem beginRestart_sound (s : State) (hP : Lnk.Sound s.lnk) : Lnk.Sound (beginRestart s).lnk := by
  unfold beginRestart; (try dsimp only); (repeat' split) <;> first | (with_reducible exact hP) | (simp +contextual (maxDischargeDepth := 12) [hP]; done)

@[simp] theorem restandAlarms_sound (s : State) (hP : Lnk.Sound s.lnk) : Lnk.Sound (restandAlarms s).lnk := by
  unfold restandAlarms; (try dsimp only); (repeat' split) <;> first | (with_reducible exact hP) | (simp +contextual (maxDischargeDepth := 12) [hP]; done)

@[simp] theorem endSelfCheck_sound (failed : List CheckItem) (s : State) (hP : Lnk.Sound s.lnk) : Lnk.Sound (endSelfCheck failed s).lnk := by
  unfold endSelfCheck; (try dsimp only); (repeat' split) <;> first | (with_reducible exact hP) | (simp +contextual (maxDischargeDepth := 12) [hP]; done)

@[simp] theorem dropBuilt_sound (s : State) (n : Note) (hP : Lnk.Sound s.lnk) : Lnk.Sound (dropBuilt s n).lnk := by
  unfold dropBuilt; (try dsimp only); (repeat' split) <;> first | (with_reducible exact hP) | (simp +contextual (maxDischargeDepth := 12) [hP]; done)

theorem build_queue_length (s : State) : s.build.queue.length ≤ s.lnk.queue.length := by
  have h1 : ∀ (l : List QNote) n c cl, (placeTable s l n c cl).length = l.length := by
    intro l; induction l with
    | nil => intros; rfl
    | cons q r ih => intros; unfold placeTable; (repeat' split) <;> simp [ih]
  have h2 : ∀ (l : List QNote) n c, (placeAddressed l n c).length = l.length := by
    intro l; induction l with
    | nil => intros; rfl
    | cons q r ih => intros; unfold placeAddressed; (repeat' split) <;> simp [ih]
  unfold State.build
  simp only [List.length_map, List.length_zip, h2]
  refine le_trans (Nat.min_le_left _ _) (le_trans (List.length_filter_le _ _) ?_)
  split <;> simp [h1]

@[simp] theorem buildFrame_sound (s : State) (hP : Lnk.Sound s.lnk) : Lnk.Sound (buildFrame s).lnk := by
  unfold buildFrame; dsimp only
  refine foldl_Sound _ (fun s n h => dropBuilt_sound s n h) _ _ ?_
  exact Lnk.Sound_drain _ (le_trans (build_queue_length s) hP.1) hP.2.2

@[simp] theorem sendCold_sound (s : State) (hP : Lnk.Sound s.lnk) : Lnk.Sound (sendCold s).lnk := by
  unfold sendCold; (try dsimp only); (repeat' split) <;> first | (with_reducible exact hP) | (simp +contextual (maxDischargeDepth := 12) [hP]; done)

@[simp] theorem judgeAbsent_sound (s : State) (hP : Lnk.Sound s.lnk) : Lnk.Sound (judgeAbsent s).lnk := by
  unfold judgeAbsent; (try dsimp only); (repeat' split) <;> first | (with_reducible exact hP) | (simp +contextual (maxDischargeDepth := 12) [hP]; done)

@[simp] theorem countSilence_sound (k : Nat) (s : State) (hP : Lnk.Sound s.lnk) : Lnk.Sound (countSilence k s).lnk := by
  unfold countSilence; (try dsimp only); (repeat' split) <;> first | (with_reducible exact hP) | (simp +contextual (maxDischargeDepth := 12) [hP]; done)

@[simp] theorem failTransmit_sound (s : State) (hP : Lnk.Sound s.lnk) : Lnk.Sound (failTransmit s).lnk := by
  unfold failTransmit; (try dsimp only); (repeat' split) <;> first | (with_reducible exact hP) | (simp +contextual (maxDischargeDepth := 12) [hP]; done)

@[simp] theorem passOwn_sound (k : Nat) (round : Half) (s : State) (hP : Lnk.Sound s.lnk) : Lnk.Sound (passOwn k round s).lnk := by
  unfold passOwn; (try dsimp only); (repeat' split) <;> first | (with_reducible exact hP) | (simp +contextual (maxDischargeDepth := 12) [hP]; done)

@[simp] theorem voteUnseen_sound (k : Nat) (s : State) (hP : Lnk.Sound s.lnk) : Lnk.Sound (voteUnseen k s).lnk := by
  unfold voteUnseen; (try dsimp only); (repeat' split) <;> first | (with_reducible exact hP) | (simp +contextual (maxDischargeDepth := 12) [hP]; done)

@[simp] theorem endSlot_sound (k : Nat) (round : Half) (gath res : Bool) (s : State) (hP : Lnk.Sound s.lnk) : Lnk.Sound (endSlot k round gath res s).lnk := by
  unfold endSlot; (try dsimp only); (repeat' split) <;> first | (with_reducible exact hP) | (simp +contextual (maxDischargeDepth := 12) [hP]; done)

@[simp] theorem endSilent_sound (s : State) (hP : Lnk.Sound s.lnk) : Lnk.Sound (endSilent s).lnk := by
  unfold endSilent; (try dsimp only); (repeat' split) <;> first | (with_reducible exact hP) | (simp +contextual (maxDischargeDepth := 12) [hP]; done)

@[simp] theorem silentSlot_sound (s : State) (hP : Lnk.Sound s.lnk) : Lnk.Sound (silentSlot s).lnk := by
  unfold silentSlot; (try dsimp only); (repeat' split) <;> first | (with_reducible exact hP) | (simp +contextual (maxDischargeDepth := 12) [hP]; done)

@[simp] theorem silentSlots_sound (n : Nat) (s : State) (hP : Lnk.Sound s.lnk) : Lnk.Sound (silentSlots n s).lnk := by
  induction n generalizing s with
  | zero => simpa [silentSlots] using hP
  | succ n ih => exact ih _ (by simp (maxDischargeDepth := 12) [hP])

@[simp] theorem dropVoteRec_sound (passes : Bool) (s : State) (hP : Lnk.Sound s.lnk) : Lnk.Sound (dropVoteRec passes s).lnk := by
  unfold dropVoteRec; (try dsimp only); (repeat' split) <;> first | (with_reducible exact hP) | (simp +contextual (maxDischargeDepth := 12) [hP]; done)

@[simp] theorem correctSlot_sound (f : Frame) (s : State) (hP : Lnk.Sound s.lnk) : Lnk.Sound (correctSlot f s).lnk := by
  unfold correctSlot; (try dsimp only); (repeat' split) <;> first | (with_reducible exact hP) | (simp +contextual (maxDischargeDepth := 12) [hP]; done)

@[simp] theorem hearRoster_sound (f : Frame) (s : State) (hP : Lnk.Sound s.lnk) : Lnk.Sound (hearRoster f s).lnk := by
  unfold hearRoster; (try dsimp only); (repeat' split) <;> first | (with_reducible exact hP) | (simp +contextual (maxDischargeDepth := 12) [hP]; done)

@[simp] theorem handAddressed_sound (from_ : Nat) (s : State) (n : Note) (hP : Lnk.Sound s.lnk) : Lnk.Sound (handAddressed from_ s n).lnk := by
  unfold handAddressed; (try dsimp only); (repeat' split) <;> first | (with_reducible exact hP) | (simp +contextual (maxDischargeDepth := 12) [hP]; done)

@[simp] theorem handPlan_sound (s : State) (n : Note) (hP : Lnk.Sound s.lnk) : Lnk.Sound (handPlan s n).lnk := by
  unfold handPlan; (try dsimp only); (repeat' split) <;> first | (with_reducible exact hP) | (simp +contextual (maxDischargeDepth := 12) [hP]; done)

@[simp] theorem handPlans_sound (f : Frame) (s : State) (hP : Lnk.Sound s.lnk) : Lnk.Sound (handPlans f s).lnk := by
  unfold handPlans; (try dsimp only); (repeat' split) <;> first | (with_reducible exact hP) | (simp +contextual (maxDischargeDepth := 12) [hP]; done)

@[simp] theorem handleFrame_sound (f : Frame) (s : State) (hP : Lnk.Sound s.lnk) : Lnk.Sound (handleFrame f s).lnk := by
  unfold handleFrame; (try dsimp only); (repeat' split) <;> first | (with_reducible exact hP) | (simp +contextual (maxDischargeDepth := 12) [hP]; done)

@[simp] theorem afterFrame_sound (f : Frame) (own gath res : Bool) (s : State) (hP : Lnk.Sound s.lnk) : Lnk.Sound (afterFrame f own gath res s).lnk := by
  unfold afterFrame; (try dsimp only); (repeat' split) <;> first | (with_reducible exact hP) | (simp +contextual (maxDischargeDepth := 12) [hP]; done)

@[simp] theorem hearDuplicate_sound (s : State) (hP : Lnk.Sound s.lnk) : Lnk.Sound (hearDuplicate s).lnk := by
  unfold hearDuplicate; (try dsimp only); (repeat' split) <;> first | (with_reducible exact hP) | (simp +contextual (maxDischargeDepth := 12) [hP]; done)

@[simp] theorem silencedFrame_sound (f : Frame) (s : State) (hP : Lnk.Sound s.lnk) : Lnk.Sound (silencedFrame f s).lnk := by
  unfold silencedFrame; dsimp only
  refine foldl_Sound _ ?_ _ _ ?_
  · intro s n h; split <;> simp [h]
  · split <;> simp (maxDischargeDepth := 12) [hP]

@[simp] theorem readableFrame_sound (f : Frame) (own : Bool) (s : State) (hP : Lnk.Sound s.lnk) : Lnk.Sound (readableFrame f own s).lnk := by
  unfold readableFrame; (try dsimp only); (repeat' split) <;> first | (with_reducible exact hP) | (simp +contextual (maxDischargeDepth := 12) [hP]; done)

@[simp] theorem unreadableFrame_sound (mine : Bool) (s : State) (hP : Lnk.Sound s.lnk) : Lnk.Sound (unreadableFrame mine s).lnk := by
  unfold unreadableFrame; (try dsimp only); (repeat' split) <;> first | (with_reducible exact hP) | (simp +contextual (maxDischargeDepth := 12) [hP]; done)

@[simp] theorem idleLine_sound (s : State) (hP : Lnk.Sound s.lnk) : Lnk.Sound (idleLine s).lnk := by
  unfold idleLine; (try dsimp only); (repeat' split) <;> first | (with_reducible exact hP) | (simp +contextual (maxDischargeDepth := 12) [hP]; done)

@[simp] theorem redraw_sound (s : State) (hP : Lnk.Sound s.lnk) : Lnk.Sound (redraw s).lnk := by
  unfold redraw; (try dsimp only); (repeat' split) <;> first | (with_reducible exact hP) | (simp +contextual (maxDischargeDepth := 12) [hP]; done)

@[simp] theorem finish_sound (s : State) (hP : Lnk.Sound s.lnk) : Lnk.Sound (finish s).lnk := by
  unfold finish; (try dsimp only); (repeat' split) <;> first | (with_reducible exact hP) | (simp +contextual (maxDischargeDepth := 12) [hP]; done)

@[simp] theorem conclude_sound (always : Bool) (old : State) (s : State) (hP : Lnk.Sound s.lnk) : Lnk.Sound (conclude always old s).lnk := by
  unfold conclude; (try dsimp only); (repeat' split) <;> first | (with_reducible exact hP) | (simp +contextual (maxDischargeDepth := 12) [hP]; done)

@[simp] theorem moveCursor_sound (d : Arrow) (s : State) (hP : Lnk.Sound s.lnk) : Lnk.Sound (moveCursor d s).lnk := by
  unfold moveCursor; (try dsimp only); (repeat' split) <;> first | (with_reducible exact hP) | (simp +contextual (maxDischargeDepth := 12) [hP]; done)

@[simp] theorem recoverIndex_sound (s : State) (hP : Lnk.Sound s.lnk) : Lnk.Sound (recoverIndex s).lnk := by
  unfold recoverIndex; (try dsimp only); (repeat' split) <;> first | (with_reducible exact hP) | (simp +contextual (maxDischargeDepth := 12) [hP]; done)

@[simp] theorem handClear_sound (s : State) (hP : Lnk.Sound s.lnk) : Lnk.Sound (handClear s).lnk := by
  unfold handClear; (try dsimp only); (repeat' split) <;> first | (with_reducible exact hP) | (simp +contextual (maxDischargeDepth := 12) [hP]; done)

@[simp] theorem placeHoldOff_sound (s : State) (c : Nat) (hP : Lnk.Sound s.lnk) : Lnk.Sound (placeHoldOff s c).lnk := by
  unfold placeHoldOff; (try dsimp only); (repeat' split) <;> first | (with_reducible exact hP) | (simp +contextual (maxDischargeDepth := 12) [hP]; done)

@[simp] theorem handHoldRel_sound (s : State) (hP : Lnk.Sound s.lnk) : Lnk.Sound (handHoldRel s).lnk := by
  unfold handHoldRel; (try dsimp only); (repeat' split) <;> first | (with_reducible exact hP) | (simp +contextual (maxDischargeDepth := 12) [hP]; done)

@[simp] theorem handSkip_sound (s : State) (hP : Lnk.Sound s.lnk) : Lnk.Sound (handSkip s).lnk := by
  unfold handSkip; (try dsimp only); (repeat' split) <;> first | (with_reducible exact hP) | (simp +contextual (maxDischargeDepth := 12) [hP]; done)

@[simp] theorem sendRow_sound (s : State) (hP : Lnk.Sound s.lnk) : Lnk.Sound (sendRow s).lnk := by
  unfold sendRow; (try dsimp only); (repeat' split) <;> first | (with_reducible exact hP) | (simp +contextual (maxDischargeDepth := 12) [hP]; done)

@[simp] theorem rowSent_sound (s : State) (hP : Lnk.Sound s.lnk) : Lnk.Sound (rowSent s).lnk := by
  unfold rowSent; (try dsimp only); (repeat' split) <;> first | (with_reducible exact hP) | (simp +contextual (maxDischargeDepth := 12) [hP]; done)

@[simp] theorem recordDone_sound (s : State) (hP : Lnk.Sound s.lnk) : Lnk.Sound (recordDone s).lnk := by
  unfold recordDone; (try dsimp only); (repeat' split) <;> first | (with_reducible exact hP) | (simp +contextual (maxDischargeDepth := 12) [hP]; done)

@[simp] theorem recordFailed_sound (s : State) (hP : Lnk.Sound s.lnk) : Lnk.Sound (recordFailed s).lnk := by
  unfold recordFailed; (try dsimp only); (repeat' split) <;> first | (with_reducible exact hP) | (simp +contextual (maxDischargeDepth := 12) [hP]; done)

@[simp] theorem headerDone_sound (s : State) (hP : Lnk.Sound s.lnk) : Lnk.Sound (headerDone s).lnk := by
  unfold headerDone; (try dsimp only); (repeat' split) <;> first | (with_reducible exact hP) | (simp +contextual (maxDischargeDepth := 12) [hP]; done)

@[simp] theorem headerFailed_sound (s : State) (hP : Lnk.Sound s.lnk) : Lnk.Sound (headerFailed s).lnk := by
  unfold headerFailed; (try dsimp only); (repeat' split) <;> first | (with_reducible exact hP) | (simp +contextual (maxDischargeDepth := 12) [hP]; done)

@[simp] theorem eraseFinished_sound (s : State) (hP : Lnk.Sound s.lnk) : Lnk.Sound (eraseFinished s).lnk := by
  unfold eraseFinished; (try dsimp only); (repeat' split) <;> first | (with_reducible exact hP) | (simp +contextual (maxDischargeDepth := 12) [hP]; done)

@[simp] theorem eraseFailed_sound (s : State) (hP : Lnk.Sound s.lnk) : Lnk.Sound (eraseFailed s).lnk := by
  unfold eraseFailed; (try dsimp only); (repeat' split) <;> first | (with_reducible exact hP) | (simp +contextual (maxDischargeDepth := 12) [hP]; done)

@[simp] theorem badMarkEnded_sound (completed : Bool) (s : State) (hP : Lnk.Sound s.lnk) : Lnk.Sound (badMarkEnded completed s).lnk := by
  unfold badMarkEnded; (try dsimp only); (repeat' split) <;> first | (with_reducible exact hP) | (simp +contextual (maxDischargeDepth := 12) [hP]; done)

@[simp] theorem retracted_sound (readBack : Byte) (s : State) (hP : Lnk.Sound s.lnk) : Lnk.Sound (retracted readBack s).lnk := by
  unfold retracted; (try dsimp only); (repeat' split) <;> first | (with_reducible exact hP) | (simp +contextual (maxDischargeDepth := 12) [hP]; done)

@[simp] theorem recordRead_sound (s : State) (hP : Lnk.Sound s.lnk) : Lnk.Sound (recordRead s).lnk := by
  unfold recordRead; (try dsimp only); (repeat' split) <;> first | (with_reducible exact hP) | (simp +contextual (maxDischargeDepth := 12) [hP]; done)

@[simp] theorem endMount_sound (answered : Bool) (s : State) (hP : Lnk.Sound s.lnk) : Lnk.Sound (endMount answered s).lnk := by
  unfold endMount; (try dsimp only); (repeat' split) <;> first | (with_reducible exact hP) | (simp +contextual (maxDischargeDepth := 12) [hP]; done)

@[simp] theorem afterSlot_sound (s : State) (hP : Lnk.Sound s.lnk) : Lnk.Sound (afterSlot s).lnk := by
  unfold afterSlot; (try dsimp only); (repeat' split) <;> first | (with_reducible exact hP) | (simp +contextual (maxDischargeDepth := 12) [hP]; done)

@[simp] theorem quietExpired_sound (s : State) (hP : Lnk.Sound s.lnk) : Lnk.Sound (quietExpired s).lnk := by
  unfold quietExpired; (try dsimp only); (repeat' split) <;> first | (with_reducible exact hP) | (simp +contextual (maxDischargeDepth := 12) [hP]; done)

@[simp] theorem unreadableEnd_sound (s : State) (hP : Lnk.Sound s.lnk) : Lnk.Sound (unreadableEnd s).lnk := by
  unfold unreadableEnd; (try dsimp only); (repeat' split) <;> first | (with_reducible exact hP) | (simp +contextual (maxDischargeDepth := 12) [hP]; done)

@[simp] theorem frameEnd_sound (chars : List Byte) (s : State) (hP : Lnk.Sound s.lnk) : Lnk.Sound (frameEnd chars s).lnk := by
  unfold frameEnd; (try dsimp only); (repeat' split) <;> first | (with_reducible exact hP) | (simp +contextual (maxDischargeDepth := 12) [hP]; done)

@[simp] theorem badFrameEnd_sound (s : State) (hP : Lnk.Sound s.lnk) : Lnk.Sound (badFrameEnd s).lnk := by
  unfold badFrameEnd; (try dsimp only); (repeat' split) <;> first | (with_reducible exact hP) | (simp +contextual (maxDischargeDepth := 12) [hP]; done)

@[simp] theorem slotEnds_sound (lv : Levels) (s : State) (hP : Lnk.Sound s.lnk) : Lnk.Sound (slotEnds lv s).lnk := by
  unfold slotEnds; (try dsimp only); (repeat' split) <;> first | (with_reducible exact hP) | (simp +contextual (maxDischargeDepth := 12) [hP]; done)

@[simp] theorem unsend_sound (s : State) (hP : Lnk.Sound s.lnk) : Lnk.Sound (unsend s).lnk := by
  unfold unsend; (try dsimp only); (repeat' split) <;> first | (with_reducible exact hP) | (simp +contextual (maxDischargeDepth := 12) [hP]; done)

@[simp] theorem missDeadline_sound (s : State) (hP : Lnk.Sound s.lnk) : Lnk.Sound (missDeadline s).lnk := by
  unfold missDeadline; (try dsimp only); (repeat' split) <;> first | (with_reducible exact hP) | (simp +contextual (maxDischargeDepth := 12) [hP]; done)

@[simp] theorem coldMismatch_sound (s : State) (hP : Lnk.Sound s.lnk) : Lnk.Sound (coldMismatch s).lnk := by
  unfold coldMismatch; (try dsimp only); (repeat' split) <;> first | (with_reducible exact hP) | (simp +contextual (maxDischargeDepth := 12) [hP]; done)

@[simp] theorem mismatch_sound (s : State) (hP : Lnk.Sound s.lnk) : Lnk.Sound (mismatch s).lnk := by
  unfold mismatch; (try dsimp only); (repeat' split) <;> first | (with_reducible exact hP) | (simp +contextual (maxDischargeDepth := 12) [hP]; done)

@[simp] theorem taktExpired_sound (s : State) (hP : Lnk.Sound s.lnk) : Lnk.Sound (taktExpired s).lnk := by
  unfold taktExpired; (try dsimp only); (repeat' split) <;> first | (with_reducible exact hP) | (simp +contextual (maxDischargeDepth := 12) [hP]; done)

@[simp] theorem clampWaitExpired_sound (s : State) (hP : Lnk.Sound s.lnk) : Lnk.Sound (clampWaitExpired s).lnk := by
  unfold clampWaitExpired; (try dsimp only); (repeat' split) <;> first | (with_reducible exact hP) | (simp +contextual (maxDischargeDepth := 12) [hP]; done)

@[simp] theorem headAlerted_sound (a : AlertKind) (s : State) (hP : Lnk.Sound s.lnk) : Lnk.Sound (headAlerted a s).lnk := by
  unfold headAlerted; (try dsimp only); (repeat' split) <;> first | (with_reducible exact hP) | (simp +contextual (maxDischargeDepth := 12) [hP]; done)

@[simp] theorem takeByte_sound (is : Byte → Bool) (act : Byte → Ocu → Ocu) (s : State) (hP : Lnk.Sound s.lnk) :
    Lnk.Sound (takeByte is act s).lnk := hP

@[simp] theorem takeKey_sound (c : Byte) (hand : State → State) (hA : ∀ s : State, Lnk.Sound s.lnk → Lnk.Sound (hand s).lnk) (s : State)
    (hP : Lnk.Sound s.lnk) : Lnk.Sound (takeKey c hand s).lnk := by
  unfold takeKey
  (repeat' split) <;> first | exact hP | exact hA _ hP

@[simp] theorem clampOpened_sound (s : State) (hP : Lnk.Sound s.lnk) : Lnk.Sound (clampOpened s).lnk := by
  unfold clampOpened; (try dsimp only); (repeat' split) <;> first | (with_reducible exact hP) | (simp +contextual (maxDischargeDepth := 12) [hP]; done)

@[simp] theorem openLimit_sound (s : State) (hP : Lnk.Sound s.lnk) : Lnk.Sound (openLimit s).lnk := by
  unfold openLimit; (try dsimp only); (repeat' split) <;> first | (with_reducible exact hP) | (simp +contextual (maxDischargeDepth := 12) [hP]; done)

@[simp] theorem beamDone_sound (s : State) (hP : Lnk.Sound s.lnk) : Lnk.Sound (beamDone s).lnk := by
  unfold beamDone; (try dsimp only); (repeat' split) <;> first | (with_reducible exact hP) | (simp +contextual (maxDischargeDepth := 12) [hP]; done)

@[simp] theorem removeMagazine_sound (m : MagName) (s : State) (hP : Lnk.Sound s.lnk) : Lnk.Sound (removeMagazine m s).lnk := by
  unfold removeMagazine; (try dsimp only); (repeat' split) <;> first | (with_reducible exact hP) | (simp +contextual (maxDischargeDepth := 12) [hP]; done)

@[simp] theorem startPush_sound (p : PusherName) (s : State) (hP : Lnk.Sound s.lnk) : Lnk.Sound (startPush p s).lnk := by
  unfold startPush; (try dsimp only); (repeat' split) <;> first | (with_reducible exact hP) | (simp +contextual (maxDischargeDepth := 12) [hP]; done)

@[simp] theorem pushExpired_sound (p : PusherName) (s : State) (hP : Lnk.Sound s.lnk) : Lnk.Sound (pushExpired p s).lnk := by
  unfold pushExpired; (try dsimp only); (repeat' split) <;> first | (with_reducible exact hP) | (simp +contextual (maxDischargeDepth := 12) [hP]; done)

@[simp] theorem clampClosed_sound (s : State) (hP : Lnk.Sound s.lnk) : Lnk.Sound (clampClosed s).lnk := by
  unfold clampClosed; (try dsimp only); (repeat' split) <;> first | (with_reducible exact hP) | (simp +contextual (maxDischargeDepth := 12) [hP]; done)

@[simp] theorem beamHomed_sound (s : State) (hP : Lnk.Sound s.lnk) : Lnk.Sound (beamHomed s).lnk := by
  unfold beamHomed; (try dsimp only); (repeat' split) <;> first | (with_reducible exact hP) | (simp +contextual (maxDischargeDepth := 12) [hP]; done)

@[simp] theorem insertMagazine_sound (m : MagName) (s : State) (hP : Lnk.Sound s.lnk) : Lnk.Sound (insertMagazine m s).lnk := by
  unfold insertMagazine; (try dsimp only); (repeat' split) <;> first | (with_reducible exact hP) | (simp +contextual (maxDischargeDepth := 12) [hP]; done)

@[simp] theorem viewUp_sound (s : State) (hP : Lnk.Sound s.lnk) : Lnk.Sound (viewUp s).lnk := by
  unfold viewUp; (try dsimp only); (repeat' split) <;> first | (with_reducible exact hP) | (simp +contextual (maxDischargeDepth := 12) [hP]; done)

@[simp] theorem viewDown_sound (s : State) (hP : Lnk.Sound s.lnk) : Lnk.Sound (viewDown s).lnk := by
  unfold viewDown; (try dsimp only); (repeat' split) <;> first | (with_reducible exact hP) | (simp +contextual (maxDischargeDepth := 12) [hP]; done)

@[simp] theorem poweredOn_sound (x : Straps) (lv : Levels) (m : List Host.Cell) (n : Nat) (q : List Instr) :
    Lnk.Sound (State.poweredOn x lv m n q).lnk := Lnk.Sound_reset

end Sys2Proof.Machine
end

