-- ==== Sys2Proof/Laws/RecordFits.lean ====
section
/-! SUPPORT. The write queue and the retraction list keep to their sizes: one lemma an operation. -/

set_option linter.all false
namespace Sys2Proof.Machine

@[simp] theorem Rcu.Fits_mk (r : Rcu) (h : r.Fits) (ri re lo di bl st ne fa ow po lk fe o1 o2 o3) :
    Rcu.Fits ⟨ri, re, lo, di, r.queue, r.retr, bl, st, ne, fa, ow, po, lk, fe, o1, o2, o3⟩ := h
@[simp] theorem Rcu.Fits_reset : Rcu.reset.Fits := ⟨Nat.zero_le _, Nat.zero_le _⟩
@[simp] theorem Rcu.Fits_addLost (n) (r : Rcu) (h : r.Fits) : (r.addLost n).Fits := h
@[simp] theorem Rcu.Fits_addDiscarded (n) (r : Rcu) (h : r.Fits) : (r.addDiscarded n).Fits := h
@[simp] theorem Rcu.Fits_reserve (a b c n) (r : Rcu) (h : r.Fits) : (r.reserve a b c n).Fits := by unfold Rcu.reserve; split <;> exact h
@[simp] theorem Rcu.Fits_unreserve (a b c) (r : Rcu) (h : r.Fits) : (r.unreserve a b c).Fits := h
@[simp] theorem Rcu.Fits_useOne (a b c) (r : Rcu) (h : r.Fits) : (r.useOne a b c).Fits := h
@[simp] theorem Rcu.Fits_enqueueOne (r : Rcu) (h : r.Fits) : r.enqueueOne.Fits := by
  unfold Rcu.enqueueOne; split
  · exact h
  · split
    · rename_i hl; exact ⟨by simp; omega, h.2⟩
    · exact h
@[simp] theorem Rcu.Fits_fill (r : Rcu) (h : r.Fits) : r.fill.Fits := by simp (maxDischargeDepth := 12) [Rcu.fill, h]
@[simp] theorem Rcu.Fits_giveOutcome (a b c d o) (r : Rcu) (h : r.Fits) : (r.giveOutcome a b c d o).Fits := by
  unfold Rcu.giveOutcome; dsimp only; (repeat' split) <;> first | exact h | exact Rcu.Fits_fill _ h
@[simp] theorem Rcu.Fits_handOff (a b c d e m n) (r : Rcu) (h : r.Fits) : (r.handOff a b c d e m n).Fits := by
  unfold Rcu.handOff; dsimp only; (repeat' split) <;> exact h
@[simp] theorem Rcu.Fits_joinPull (n a b) (r : Rcu) (h : r.Fits) : (r.joinPull n a b).Fits := by
  unfold Rcu.joinPull; (repeat' split)
  · exact Rcu.Fits_giveOutcome _ _ _ _ _ _ h
  · exact h
  · rename_i hl; exact ⟨by simp; omega, h.2⟩
  · exact h
theorem foldl_rcu {α : Type} (f : Rcu → α → Rcu) (h : ∀ r x, r.Fits → (f r x).Fits) (l : List α) (r : Rcu) (hr : r.Fits) :
    (l.foldl f r).Fits := by
  induction l generalizing r with
  | nil => exact hr
  | cons a l ih => exact ih _ (h _ _ hr)
@[simp] theorem Rcu.Fits_notTested (f) (r : Rcu) (h : r.Fits) : (r.notTested f).Fits :=
  foldl_rcu _ (fun r x h => Rcu.Fits_giveOutcome _ _ _ _ _ _ h) _ _ h
@[simp] theorem Rcu.Fits_stripLeft (f) (r : Rcu) (h : r.Fits) : (r.stripLeft f).Fits := Rcu.Fits_notTested _ _ h
@[simp] theorem Rcu.Fits_tableComplete (f) (r : Rcu) (h : r.Fits) : (r.tableComplete f).Fits := Rcu.Fits_notTested _ _ h
@[simp] theorem Rcu.Fits_freeEntry (b) (r : Rcu) (h : r.Fits) : (r.freeEntry b).Fits := by unfold Rcu.freeEntry; split <;> exact h
@[simp] theorem Rcu.Fits_setBlock (b f) (r : Rcu) (h : r.Fits) : (r.setBlock b f).Fits := h
@[simp] theorem Rcu.Fits_advance (n) (r : Rcu) (h : r.Fits) : (r.advance n).Fits := ⟨h.1, by simpa [Rcu.advance] using h.2⟩
@[simp] theorem Rcu.Fits_discard (l) (r : Rcu) (h : r.Fits) : (Rcu.discard l r).Fits := by
  induction l generalizing r with
  | nil => exact h
  | cons a l ih => exact ih _ (by simp (maxDischargeDepth := 12) [h])
@[simp] theorem Rcu.Fits_noQueue (r : Rcu) (h : r.Fits) : Rcu.Fits { r with queue := [] } := ⟨Nat.zero_le _, h.2⟩
@[simp] theorem Rcu.Fits_dropQueue (r : Rcu) (h : r.Fits) : r.dropQueue.Fits :=
  Rcu.Fits_fill _ (Rcu.Fits_discard _ _ (Rcu.Fits_noQueue _ (Rcu.Fits_advance _ _ h)))
@[simp] theorem Rcu.Fits_dropNoRoom (r : Rcu) (h : r.Fits) : r.dropNoRoom.Fits := by
  unfold Rcu.dropNoRoom; split
  · simp (maxDischargeDepth := 12) [h]
  · exact h
@[simp] theorem Rcu.Fits_reserveCheck (p) (r : Rcu) (h : r.Fits) : (r.reserveCheck p).Fits := by
  unfold Rcu.reserveCheck; (repeat' split) <;> exact h
@[simp] theorem Rcu.Fits_judgeStore (p) (r : Rcu) (h : r.Fits) : (r.judgeStore p).Fits := by
  unfold Rcu.judgeStore; (repeat' split) <;> exact h
@[simp] theorem Rcu.Fits_closeFetch (c) (r : Rcu) (h : r.Fits) : (r.closeFetch c).Fits := by
  unfold Rcu.closeFetch; (repeat' split) <;> exact h
@[simp] theorem Rcu.Fits_takeFetch (c f) (r : Rcu) (h : r.Fits) : (r.takeFetch c f).Fits := by
  unfold Rcu.takeFetch; dsimp only; (repeat' split) <;> first | exact h | exact Rcu.Fits_closeFetch _ _ h
@[simp] theorem Rcu.Fits_outSent (r : Rcu) (h : r.Fits) : r.outSent.Fits := by
  unfold Rcu.outSent; (repeat' split) <;> exact h
@[simp] theorem Rcu.Fits_outUnsent (r : Rcu) (h : r.Fits) : r.outUnsent.Fits := h
@[simp] theorem Rcu.Fits_dropFetch (r : Rcu) (h : r.Fits) : r.dropFetch.Fits := ⟨h.1, Nat.zero_le _⟩
@[simp] theorem Rcu.Fits_restart (r : Rcu) (h : r.Fits) : r.restart.Fits := by
  unfold Rcu.restart
  refine ⟨le_trans ?_ h.1, Nat.zero_le _⟩
  dsimp only [Rcu.addLost, Rcu.addDiscarded]
  exact List.length_take_le' _ _
@[simp] theorem Rcu.Fits_goBad (c) (r : Rcu) (h : r.Fits) : (r.goBad c).Fits := h
@[simp] theorem Rcu.Fits_free (r : Rcu) (h : r.Fits) : r.free.Fits := h
@[simp] theorem Rcu.Fits_queueNil (r : Rcu) (h : r.retr.length ≤ 4) (ri re lo di bl st ne fa ow po lk fe o1 o2 o3) :
    Rcu.Fits ⟨ri, re, lo, di, [], r.retr, bl, st, ne, fa, ow, po, lk, fe, o1, o2, o3⟩ := ⟨Nat.zero_le _, h⟩
@[simp] theorem Rcu.Fits_start (a b) (r : Rcu) (h : r.Fits) : (r.start a b).Fits := h
@[simp] theorem Rcu.Fits_beginErase (a) (r : Rcu) (h : r.Fits) : (r.beginErase a).Fits := h
@[simp] theorem Rcu.Fits_openNext (a) (r : Rcu) (h : r.Fits) : (r.openNext a).Fits := h
@[simp] theorem Rcu.Fits_checkCursor (r : Rcu) (h : r.Fits) : r.checkCursor.Fits := by
  unfold Rcu.checkCursor; dsimp only; (repeat' split) <;> first | exact h | exact Rcu.Fits_closeFetch _ _ h
@[simp] theorem Rcu.Fits_judgeRead (bs) (r : Rcu) (h : r.Fits) : (r.judgeRead bs).Fits := by
  unfold Rcu.judgeRead; dsimp only; (repeat' split) <;> first | exact h | exact Rcu.Fits_closeFetch _ _ h
@[simp] theorem Rcu.Fits_openDue (r : Rcu) (h : r.Fits) : r.openDue.Fits := by
  unfold Rcu.openDue; cases r.blockDue <;> exact h
theorem Rcu.Fits_startRecord (r q : Rcu) (h : r.Fits) (e : r.startRecord = some q) : q.Fits := by
  unfold Rcu.startRecord at e; dsimp only at e
  split at e
  · cases e
  · simp only [Option.map_eq_some_iff] at e; obtain ⟨i, -, rfl⟩ := e; exact h
theorem Rcu.Fits_startProgram (x) (r q : Rcu) (h : r.Fits) (e : r.startProgram x = some q) : q.Fits := by
  unfold Rcu.startProgram at e
  (repeat' split at e)
  · cases e
  · rename_i hr _ _
    cases e
    refine ⟨h.1, ?_⟩
    have := h.2; rw [hr] at this; simp at this; exact Nat.le_of_lt this
  · exact Rcu.Fits_startRecord _ _ h e
  · exact Rcu.Fits_startRecord _ _ h e
theorem Rcu.Fits_startRead (r q : Rcu) (h : r.Fits) (e : r.startRead = some q) : q.Fits := by
  unfold Rcu.startRead at e
  simp only [Option.map_eq_some_iff] at e; obtain ⟨i, -, rfl⟩ := e; exact h
theorem Rcu.Fits_writesProgram (x) (r q : Rcu) (h : r.Fits) (e : (if r.writes then r.startProgram x else none) = some q) :
    q.Fits := by
  split at e
  · exact Rcu.Fits_startProgram _ _ _ h e
  · cases e
theorem Rcu.Fits_startThird (x) (r q : Rcu) (h : r.Fits) (e : r.startThird x = some q) : q.Fits := by
  unfold Rcu.startThird at e; dsimp only at e
  split at e
  · cases h1 : r.startRead with
    | some q' => rw [h1] at e; cases e; exact Rcu.Fits_startRead _ _ h h1
    | none => rw [h1] at e; exact Rcu.Fits_writesProgram _ _ _ h e
  · cases h2 : (if r.writes then r.startProgram x else none) with
    | some q' => rw [h2] at e; cases e; exact Rcu.Fits_writesProgram _ _ _ h h2
    | none => rw [h2] at e; exact Rcu.Fits_startRead _ _ h e
theorem Rcu.Fits_startOwed (x) (r q : Rcu) (h : r.Fits) (e : r.startOwed x = some q) : q.Fits := by
  unfold Rcu.startOwed at e
  split at e
  · simp only [Option.map_eq_some_iff] at e; obtain ⟨i, -, rfl⟩ := e; exact h
  · cases e
@[simp] theorem Rcu.Fits_startWork (x) (r : Rcu) (h : r.Fits) : (r.startWork x).Fits := by
  unfold Rcu.startWork
  split
  · exact h
  · split
    · exact Rcu.Fits_startThird _ _ _ h (by assumption)
    · generalize (if r.writes then r.nextErase else none) = o
      cases o <;> exact h
@[simp] theorem Rcu.Fits_startOp (x y) (r : Rcu) (h : r.Fits) : (r.startOp x y).Fits := by
  have hc : (if r.scanning then r.checkCursor else r).openDue.Fits :=
    Rcu.Fits_openDue _ (by split; exacts [Rcu.Fits_checkCursor _ h, h])
  unfold Rcu.startOp; dsimp only
  generalize (if r.scanning then r.checkCursor else r).openDue = q at hc
  split
  · exact h
  split
  · cases e : r.startOwed true with
    | none => exact h
    | some q' => exact Rcu.Fits_startOwed _ _ _ h e
  · cases e : q.startOwed false with
    | none => exact Rcu.Fits_startWork _ _ hc
    | some q' => exact Rcu.Fits_startOwed _ _ _ hc e
@[simp] theorem Rcu.Fits_mountTable (c d) (r : Rcu) (h : r.Fits) : (mountTable c d r).Fits := by
  unfold mountTable; dsimp only; (repeat' split) <;> exact h
@[simp] theorem foldl_unres {α : Type} (f : Rcu → α → Rcu) (h : ∀ r x, r.Fits → (f r x).Fits) (l : List α)
    (r : Rcu) (hP : r.Fits) : (l.foldl f r).Fits := foldl_rcu f h l r hP

@[simp] theorem foldl_rFits {α : Type} (f : State → α → State) (h : ∀ s x, s.rcu.Fits → (f s x).rcu.Fits) (l : List α)
    (s : State) (hP : s.rcu.Fits) : (l.foldl f s).rcu.Fits := by
  induction l generalizing s with
  | nil => exact hP
  | cons a l ih => exact ih _ (h _ _ hP)

@[simp] theorem raise_rcuFits (a : Alarm) (s : State) (hP : Rcu.Fits s.rcu) : Rcu.Fits (raise a s).rcu := by
  unfold raise; (try dsimp only); (repeat' split) <;> first | (with_reducible exact hP) | (simp +contextual (maxDischargeDepth := 12) [hP]; done)

@[simp] theorem clearAlarm_rcuFits (a : Alarm) (s : State) (hP : Rcu.Fits s.rcu) : Rcu.Fits (clearAlarm a s).rcu := by
  unfold clearAlarm; (try dsimp only); (repeat' split) <;> first | (with_reducible exact hP) | (simp +contextual (maxDischargeDepth := 12) [hP]; done)

@[simp] theorem edgeAlarm_rcuFits (a : Alarm) (before after : Bool) (s : State) (hP : Rcu.Fits s.rcu) : Rcu.Fits (edgeAlarm a before after s).rcu := by
  unfold edgeAlarm; (try dsimp only); (repeat' split) <;> first | (with_reducible exact hP) | (simp +contextual (maxDischargeDepth := 12) [hP]; done)

@[simp] theorem place_rcuFits (by_ : Producer) (n : Note) (s : State) (hP : Rcu.Fits s.rcu) : Rcu.Fits (place by_ n s).rcu := by
  unfold place; (try dsimp only); (repeat' split) <;> first | (with_reducible exact hP) | (simp +contextual (maxDischargeDepth := 12) [hP]; done)

@[simp] theorem storeSettle_rcuFits (s : State) (hP : Rcu.Fits s.rcu) : Rcu.Fits (storeSettle s).rcu := by
  unfold storeSettle; (try dsimp only); (repeat' split) <;> first | (with_reducible exact hP) | (simp +contextual (maxDischargeDepth := 12) [hP]; done)

@[simp] theorem enterStoreFault_rcuFits (s : State) (hP : Rcu.Fits s.rcu) : Rcu.Fits (enterStoreFault s).rcu := by
  unfold enterStoreFault; dsimp only
  apply raise_rcuFits; apply edgeAlarm_rcuFits
  refine foldl_rFits _ (fun s x h => place_rcuFits _ _ _ h) _ _ ?_
  exact Rcu.Fits_closeFetch _ _ ⟨Nat.zero_le _, Nat.zero_le _⟩

@[simp] theorem countFailure_rcuFits (s : State) (hP : Rcu.Fits s.rcu) : Rcu.Fits (countFailure s).rcu := by
  unfold countFailure; (try dsimp only); (repeat' split) <;> first | (with_reducible exact hP) | (simp +contextual (maxDischargeDepth := 12) [hP]; done)

@[simp] theorem handleFetch_rcuFits (requester : Nat) (f : FetchNote) (s : State) (hP : Rcu.Fits s.rcu) : Rcu.Fits (handleFetch requester f s).rcu := by
  unfold handleFetch; (try dsimp only); (repeat' split) <;> first | (with_reducible exact hP) | (simp +contextual (maxDischargeDepth := 12) [hP]; done)

@[simp] theorem handleCancel_rcuFits (tag : Nat) (s : State) (hP : Rcu.Fits s.rcu) : Rcu.Fits (handleCancel tag s).rcu := by
  unfold handleCancel; (try dsimp only); (repeat' split) <;> first | (with_reducible exact hP) | (simp +contextual (maxDischargeDepth := 12) [hP]; done)

@[simp] theorem handleRetract_rcuFits (requester tag n : Nat) (s : State) (hP : Rcu.Fits s.rcu) : Rcu.Fits (handleRetract requester tag n s).rcu := by
  unfold handleRetract; dsimp only; (repeat' split) <;> first | exact hP | skip
  rename_i h _ _
  exact ⟨hP.1, by simp; omega⟩

@[simp] theorem dropClaims_rcuFits (f : OwnClaim → Bool) (s : State) (hP : Rcu.Fits s.rcu) : Rcu.Fits (dropClaims f s).rcu := by
  unfold dropClaims; (try dsimp only); (repeat' split) <;> first | (with_reducible exact hP) | (simp +contextual (maxDischargeDepth := 12) [hP]; done)

@[simp] theorem closeQueued_rcuFits (f : OwnClaim → Bool) (s : State) (hP : Rcu.Fits s.rcu) : Rcu.Fits (closeQueued f s).rcu := by
  unfold closeQueued; (try dsimp only); (repeat' split) <;> first | (with_reducible exact hP) | (simp +contextual (maxDischargeDepth := 12) [hP]; done)

@[simp] theorem selectOne_rcuFits (s : State) (hP : Rcu.Fits s.rcu) : Rcu.Fits (selectOne s).rcu := by
  unfold selectOne; (try dsimp only); (repeat' split) <;> first | (with_reducible exact hP) | (simp +contextual (maxDischargeDepth := 12) [hP]; done)

@[simp] theorem closeUntestable_rcuFits (s : State) (x : Nat × Nat × Nat) (hP : Rcu.Fits s.rcu) : Rcu.Fits (closeUntestable s x).rcu := by
  unfold closeUntestable; (try dsimp only); (repeat' split) <;> first | (with_reducible exact hP) | (simp +contextual (maxDischargeDepth := 12) [hP]; done)

@[simp] theorem select_rcuFits (s : State) (hP : Rcu.Fits s.rcu) : Rcu.Fits (select s).rcu := by
  unfold select; (try dsimp only); (repeat' split) <;> first | (with_reducible exact hP) | (simp +contextual (maxDischargeDepth := 12) [hP]; done)

@[simp] theorem skipOne_rcuFits (t : Table) (s : State) (k : SkipReq) (hP : Rcu.Fits s.rcu) : Rcu.Fits (skipOne t s k).rcu := by
  unfold skipOne; (try dsimp only); (repeat' split) <;> first | (with_reducible exact hP) | (simp +contextual (maxDischargeDepth := 12) [hP]; done)

@[simp] theorem endSkips_rcuFits (f : SkipReq → Bool) (s : State) (hP : Rcu.Fits s.rcu) : Rcu.Fits (endSkips f s).rcu := by
  unfold endSkips; (try dsimp only); (repeat' split) <;> first | (with_reducible exact hP) | (simp +contextual (maxDischargeDepth := 12) [hP]; done)

@[simp] theorem dropStray_rcuFits (s : State) (hP : Rcu.Fits s.rcu) : Rcu.Fits (dropStray s).rcu := by
  unfold dropStray; (try dsimp only); (repeat' split) <;> first | (with_reducible exact hP) | (simp +contextual (maxDischargeDepth := 12) [hP]; done)

@[simp] theorem settleStray_rcuFits (t : Table) (s : State) (hP : Rcu.Fits s.rcu) : Rcu.Fits (settleStray t s).rcu := by
  unfold settleStray; (try dsimp only); (repeat' split) <;> first | (with_reducible exact hP) | (simp +contextual (maxDischargeDepth := 12) [hP]; done)

@[simp] theorem endUntestable_rcuFits (n : PullNote) (s : State) (hP : Rcu.Fits s.rcu) : Rcu.Fits (endUntestable n s).rcu := by
  unfold endUntestable; (try dsimp only); (repeat' split) <;> first | (with_reducible exact hP) | (simp +contextual (maxDischargeDepth := 12) [hP]; done)

@[simp] theorem skipScan_rcuFits (s : State) (hP : Rcu.Fits s.rcu) : Rcu.Fits (skipScan s).rcu := by
  unfold skipScan; (try dsimp only); (repeat' split) <;> first | (with_reducible exact hP) | (simp +contextual (maxDischargeDepth := 12) [hP]; done)

@[simp] theorem requestSkip_rcuFits (w u : Nat) (s : State) (hP : Rcu.Fits s.rcu) : Rcu.Fits (requestSkip w u s).rcu := by
  unfold requestSkip; (try dsimp only); (repeat' split) <;> first | (with_reducible exact hP) | (simp +contextual (maxDischargeDepth := 12) [hP]; done)

@[simp] theorem skipAnswered_rcuFits (applied : Bool) (w u : Nat) (s : State) (hP : Rcu.Fits s.rcu) : Rcu.Fits (skipAnswered applied w u s).rcu := by
  unfold skipAnswered; (try dsimp only); (repeat' split) <;> first | (with_reducible exact hP) | (simp +contextual (maxDischargeDepth := 12) [hP]; done)

@[simp] theorem dropSkips_rcuFits (s : State) (hP : Rcu.Fits s.rcu) : Rcu.Fits (dropSkips s).rcu := by
  unfold dropSkips; (try dsimp only); (repeat' split) <;> first | (with_reducible exact hP) | (simp +contextual (maxDischargeDepth := 12) [hP]; done)

@[simp] theorem startTakt_rcuFits (s : State) (hP : Rcu.Fits s.rcu) : Rcu.Fits (startTakt s).rcu := by
  unfold startTakt; (try dsimp only); (repeat' split) <;> first | (with_reducible exact hP) | (simp +contextual (maxDischargeDepth := 12) [hP]; done)

@[simp] theorem clearWsc_rcuFits (s : State) (hP : Rcu.Fits s.rcu) : Rcu.Fits (clearWsc s).rcu := by
  unfold clearWsc; (try dsimp only); (repeat' split) <;> first | (with_reducible exact hP) | (simp +contextual (maxDischargeDepth := 12) [hP]; done)

@[simp] theorem startVoteRec_rcuFits (s : State) (hP : Rcu.Fits s.rcu) : Rcu.Fits (startVoteRec s).rcu := by
  unfold startVoteRec; (try dsimp only); (repeat' split) <;> first | (with_reducible exact hP) | (simp +contextual (maxDischargeDepth := 12) [hP]; done)

@[simp] theorem settleVoteRec_rcuFits (s : State) (hP : Rcu.Fits s.rcu) : Rcu.Fits (settleVoteRec s).rcu := by
  unfold settleVoteRec; (try dsimp only); (repeat' split) <;> first | (with_reducible exact hP) | (simp +contextual (maxDischargeDepth := 12) [hP]; done)

@[simp] theorem sendHead_rcuFits (c : HeadCmd) (s : State) (hP : Rcu.Fits s.rcu) : Rcu.Fits (sendHead c s).rcu := by
  unfold sendHead; (try dsimp only); (repeat' split) <;> first | (with_reducible exact hP) | (simp +contextual (maxDischargeDepth := 12) [hP]; done)

@[simp] theorem reportEnd_rcuFits (n : Note) (s : State) (hP : Rcu.Fits s.rcu) : Rcu.Fits (reportEnd n s).rcu := by
  unfold reportEnd; (try dsimp only); (repeat' split) <;> first | (with_reducible exact hP) | (simp +contextual (maxDischargeDepth := 12) [hP]; done)

@[simp] theorem startClaim_rcuFits (e : WorkEntry) (s : State) (hP : Rcu.Fits s.rcu) : Rcu.Fits (startClaim e s).rcu := by
  unfold startClaim; (try dsimp only); (repeat' split) <;> first | (with_reducible exact hP) | (simp +contextual (maxDischargeDepth := 12) [hP]; done)

@[simp] theorem workGroup_rcuFits (e : WorkEntry) (c : Cursor) (s : State) (hP : Rcu.Fits s.rcu) : Rcu.Fits (workGroup e c s).rcu := by
  unfold workGroup; (try dsimp only); (repeat' split) <;> first | (with_reducible exact hP) | (simp +contextual (maxDischargeDepth := 12) [hP]; done)

@[simp] theorem workTest_rcuFits (e : WorkEntry) (c : Cursor) (s : State) (hP : Rcu.Fits s.rcu) : Rcu.Fits (workTest e c s).rcu := by
  unfold workTest; (try dsimp only); (repeat' split) <;> first | (with_reducible exact hP) | (simp +contextual (maxDischargeDepth := 12) [hP]; done)

@[simp] theorem workHead_rcuFits (e : WorkEntry) (s : State) (hP : Rcu.Fits s.rcu) : Rcu.Fits (workHead e s).rcu := by
  unfold workHead; (try dsimp only); (repeat' split) <;> first | (with_reducible exact hP) | (simp +contextual (maxDischargeDepth := 12) [hP]; done)

@[simp] theorem endStopped_rcuFits (s : State) (hP : Rcu.Fits s.rcu) : Rcu.Fits (endStopped s).rcu := by
  unfold endStopped; (try dsimp only); (repeat' split) <;> first | (with_reducible exact hP) | (simp +contextual (maxDischargeDepth := 12) [hP]; done)

@[simp] theorem stopEnded_rcuFits (s : State) (hP : Rcu.Fits s.rcu) : Rcu.Fits (s.stopEnded).rcu := by
  unfold State.stopEnded; (try dsimp only); (repeat' split) <;> first | (with_reducible exact hP) | (simp +contextual (maxDischargeDepth := 12) [hP]; done)

@[simp] theorem parkStopped_rcuFits (s : State) (hP : Rcu.Fits s.rcu) : Rcu.Fits (parkStopped s).rcu := by
  unfold parkStopped; (try dsimp only); (repeat' split) <;> first | (with_reducible exact hP) | (simp +contextual (maxDischargeDepth := 12) [hP]; done)

@[simp] theorem driveStep_rcuFits (s : State) (hP : Rcu.Fits s.rcu) : Rcu.Fits (driveStep s).rcu := by
  unfold driveStep; (try dsimp only); (repeat' split) <;> first | (with_reducible exact hP) | (simp +contextual (maxDischargeDepth := 12) [hP]; done)

@[simp] theorem driveN_rcuFits (n : Nat) (s : State) (hP : Rcu.Fits s.rcu) : Rcu.Fits (driveN n s).rcu := by
  induction n generalizing s with
  | zero => simpa [driveN] using hP
  | succ n ih => exact ih _ (by simp (maxDischargeDepth := 12) [hP])

@[simp] theorem drive_rcuFits (s : State) (hP : Rcu.Fits s.rcu) : Rcu.Fits (drive s).rcu := by
  unfold drive; (try dsimp only); (repeat' split) <;> first | (with_reducible exact hP) | (simp +contextual (maxDischargeDepth := 12) [hP]; done)

@[simp] theorem releaseWork_rcuFits (f : WorkEntry → Bool) (s : State) (hP : Rcu.Fits s.rcu) : Rcu.Fits (releaseWork f s).rcu := by
  unfold releaseWork; (try dsimp only); (repeat' split) <;> first | (with_reducible exact hP) | (simp +contextual (maxDischargeDepth := 12) [hP]; done)

@[simp] theorem dropMarked_rcuFits (s : State) (hP : Rcu.Fits s.rcu) : Rcu.Fits (dropMarked s).rcu := by
  unfold dropMarked; (try dsimp only); (repeat' split) <;> first | (with_reducible exact hP) | (simp +contextual (maxDischargeDepth := 12) [hP]; done)

@[simp] theorem enterHalted_rcuFits (s : State) (hP : Rcu.Fits s.rcu) : Rcu.Fits (enterHalted s).rcu := by
  unfold enterHalted; (try dsimp only); (repeat' split) <;> first | (with_reducible exact hP) | (simp +contextual (maxDischargeDepth := 12) [hP]; done)

@[simp] theorem enterSpoolOut_rcuFits (s : State) (hP : Rcu.Fits s.rcu) : Rcu.Fits (enterSpoolOut s).rcu := by
  unfold enterSpoolOut; (try dsimp only); (repeat' split) <;> first | (with_reducible exact hP) | (simp +contextual (maxDischargeDepth := 12) [hP]; done)

@[simp] theorem actAlert_rcuFits (a : AlertKind) (s : State) (hP : Rcu.Fits s.rcu) : Rcu.Fits (actAlert a s).rcu := by
  unfold actAlert; (try dsimp only); (repeat' split) <;> first | (with_reducible exact hP) | (simp +contextual (maxDischargeDepth := 12) [hP]; done)

@[simp] theorem leaveHalt_rcuFits (pos : HeadPos) (s : State) (hP : Rcu.Fits s.rcu) : Rcu.Fits (leaveHalt pos s).rcu := by
  unfold leaveHalt; (try dsimp only); (repeat' split) <;> first | (with_reducible exact hP) | (simp +contextual (maxDischargeDepth := 12) [hP]; done)

@[simp] theorem setHead_rcuFits (h : HeadPos) (s : State) (hP : Rcu.Fits s.rcu) : Rcu.Fits (setHead h s).rcu := by
  unfold setHead; (try dsimp only); (repeat' split) <;> first | (with_reducible exact hP) | (simp +contextual (maxDischargeDepth := 12) [hP]; done)

@[simp] theorem wireDone_rcuFits (m : Meas) (s : State) (hP : Rcu.Fits s.rcu) : Rcu.Fits (wireDone m s).rcu := by
  unfold wireDone; (try dsimp only); (repeat' split) <;> first | (with_reducible exact hP) | (simp +contextual (maxDischargeDepth := 12) [hP]; done)

@[simp] theorem wireMissed_rcuFits (s : State) (hP : Rcu.Fits s.rcu) : Rcu.Fits (wireMissed s).rcu := by
  unfold wireMissed; (try dsimp only); (repeat' split) <;> first | (with_reducible exact hP) | (simp +contextual (maxDischargeDepth := 12) [hP]; done)

@[simp] theorem pullOutcome_rcuFits (res : Nat → Nat × Nat × Nat) (s : State) (hP : Rcu.Fits s.rcu) : Rcu.Fits (pullOutcome res s).rcu := by
  unfold pullOutcome; (try dsimp only); (repeat' split) <;> first | (with_reducible exact hP) | (simp +contextual (maxDischargeDepth := 12) [hP]; done)

@[simp] theorem hookMissed_rcuFits (s : State) (hP : Rcu.Fits s.rcu) : Rcu.Fits (hookMissed s).rcu := by
  unfold hookMissed; (try dsimp only); (repeat' split) <;> first | (with_reducible exact hP) | (simp +contextual (maxDischargeDepth := 12) [hP]; done)

@[simp] theorem answerCmd_rcuFits (cmd : HeadCmd) (c : Completion) (s : State) (hP : Rcu.Fits s.rcu) : Rcu.Fits (answerCmd cmd c s).rcu := by
  unfold answerCmd; (try dsimp only); (repeat' split) <;> first | (with_reducible exact hP) | (simp +contextual (maxDischargeDepth := 12) [hP]; done)

@[simp] theorem endClaims_rcuFits (s : State) (hP : Rcu.Fits s.rcu) : Rcu.Fits (endClaims s).rcu := by
  unfold endClaims; (try dsimp only); (repeat' split) <;> first | (with_reducible exact hP) | (simp +contextual (maxDischargeDepth := 12) [hP]; done)

@[simp] theorem endCmd_rcuFits (o : Outstanding) (c : Completion) (s : State) (hP : Rcu.Fits s.rcu) : Rcu.Fits (endCmd o c s).rcu := by
  unfold endCmd; (try dsimp only); (repeat' split) <;> first | (with_reducible exact hP) | (simp +contextual (maxDischargeDepth := 12) [hP]; done)

@[simp] theorem headAnswer_rcuFits (tag : Byte) (c : Completion) (s : State) (hP : Rcu.Fits s.rcu) : Rcu.Fits (headAnswer tag c s).rcu := by
  unfold headAnswer; (try dsimp only); (repeat' split) <;> first | (with_reducible exact hP) | (simp +contextual (maxDischargeDepth := 12) [hP]; done)

@[simp] theorem headExpired_rcuFits (s : State) (hP : Rcu.Fits s.rcu) : Rcu.Fits (headExpired s).rcu := by
  unfold headExpired; (try dsimp only); (repeat' split) <;> first | (with_reducible exact hP) | (simp +contextual (maxDischargeDepth := 12) [hP]; done)

@[simp] theorem handClaim_rcuFits (e : OwnClaim) (s : State) (hP : Rcu.Fits s.rcu) : Rcu.Fits (handClaim e s).rcu := by
  unfold handClaim; (try dsimp only); (repeat' split) <;> first | (with_reducible exact hP) | (simp +contextual (maxDischargeDepth := 12) [hP]; done)

@[simp] theorem closeWork_rcuFits (f : WorkEntry → Bool) (s : State) (hP : Rcu.Fits s.rcu) : Rcu.Fits (closeWork f s).rcu := by
  unfold closeWork; (try dsimp only); (repeat' split) <;> first | (with_reducible exact hP) | (simp +contextual (maxDischargeDepth := 12) [hP]; done)

@[simp] theorem closeClaims_rcuFits (f : Nat → Bool) (s : State) (hP : Rcu.Fits s.rcu) : Rcu.Fits (closeClaims f s).rcu := by
  unfold closeClaims; (try dsimp only); (repeat' split) <;> first | (with_reducible exact hP) | (simp +contextual (maxDischargeDepth := 12) [hP]; done)

@[simp] theorem loseClaim_rcuFits (w u g : Nat) (s : State) (hP : Rcu.Fits s.rcu) : Rcu.Fits (loseClaim w u g s).rcu := by
  unfold loseClaim; (try dsimp only); (repeat' split) <;> first | (with_reducible exact hP) | (simp +contextual (maxDischargeDepth := 12) [hP]; done)

@[simp] theorem stopWork_rcuFits (s : State) (hP : Rcu.Fits s.rcu) : Rcu.Fits (stopWork s).rcu := by
  unfold stopWork; (try dsimp only); (repeat' split) <;> first | (with_reducible exact hP) | (simp +contextual (maxDischargeDepth := 12) [hP]; done)

@[simp] theorem indexPark_rcuFits (s : State) (hP : Rcu.Fits s.rcu) : Rcu.Fits (indexPark s).rcu := by
  unfold indexPark; (try dsimp only); (repeat' split) <;> first | (with_reducible exact hP) | (simp +contextual (maxDischargeDepth := 12) [hP]; done)

@[simp] theorem takePause_rcuFits (s : State) (hP : Rcu.Fits s.rcu) : Rcu.Fits (takePause s).rcu := by
  unfold takePause; (try dsimp only); (repeat' split) <;> first | (with_reducible exact hP) | (simp +contextual (maxDischargeDepth := 12) [hP]; done)

@[simp] theorem takeResume_rcuFits (s : State) (hP : Rcu.Fits s.rcu) : Rcu.Fits (takeResume s).rcu := by
  unfold takeResume; (try dsimp only); (repeat' split) <;> first | (with_reducible exact hP) | (simp +contextual (maxDischargeDepth := 12) [hP]; done)

@[simp] theorem takeClear_rcuFits (st : BState) (s : State) (hP : Rcu.Fits s.rcu) : Rcu.Fits (takeClear st s).rcu := by
  unfold takeClear; (try dsimp only); (repeat' split) <;> first | (with_reducible exact hP) | (simp +contextual (maxDischargeDepth := 12) [hP]; done)

@[simp] theorem restartBsq_rcuFits (s : State) (hP : Rcu.Fits s.rcu) : Rcu.Fits (restartBsq s).rcu := by
  unfold restartBsq; (try dsimp only); (repeat' split) <;> first | (with_reducible exact hP) | (simp +contextual (maxDischargeDepth := 12) [hP]; done)

@[simp] theorem restBsq_rcuFits (s : State) (hP : Rcu.Fits s.rcu) : Rcu.Fits (restBsq s).rcu := by
  unfold restBsq; (try dsimp only); (repeat' split) <;> first | (with_reducible exact hP) | (simp +contextual (maxDischargeDepth := 12) [hP]; done)

@[simp] theorem settle_rcuFits (always : Bool) (old : State) (s : State) (hP : Rcu.Fits s.rcu) : Rcu.Fits (settle always old s).rcu := by
  unfold settle; (try dsimp only); (repeat' split) <;> first | (with_reducible exact hP) | (simp +contextual (maxDischargeDepth := 12) [hP]; done)

@[simp] theorem sense_rcuFits (lv : Levels) (s : State) (hP : Rcu.Fits s.rcu) : Rcu.Fits (sense lv s).rcu := by
  unfold sense; (try dsimp only); (repeat' split) <;> first | (with_reducible exact hP) | (simp +contextual (maxDischargeDepth := 12) [hP]; done)

@[simp] theorem setClamp_rcuFits (c : ClampSt) (s : State) (hP : Rcu.Fits s.rcu) : Rcu.Fits (setClamp c s).rcu := by
  unfold setClamp; (try dsimp only); (repeat' split) <;> first | (with_reducible exact hP) | (simp +contextual (maxDischargeDepth := 12) [hP]; done)

@[simp] theorem tellOpen_rcuFits (b : Bool) (s : State) (hP : Rcu.Fits s.rcu) : Rcu.Fits (tellOpen b s).rcu := by
  unfold tellOpen; (try dsimp only); (repeat' split) <;> first | (with_reducible exact hP) | (simp +contextual (maxDischargeDepth := 12) [hP]; done)

@[simp] theorem openClamp_rcuFits (s : State) (hP : Rcu.Fits s.rcu) : Rcu.Fits (openClamp s).rcu := by
  unfold openClamp; (try dsimp only); (repeat' split) <;> first | (with_reducible exact hP) | (simp +contextual (maxDischargeDepth := 12) [hP]; done)

@[simp] theorem closeClamp_rcuFits (s : State) (hP : Rcu.Fits s.rcu) : Rcu.Fits (closeClamp s).rcu := by
  unfold closeClamp; (try dsimp only); (repeat' split) <;> first | (with_reducible exact hP) | (simp +contextual (maxDischargeDepth := 12) [hP]; done)

@[simp] theorem takeUpClamp_rcuFits (s : State) (hP : Rcu.Fits s.rcu) : Rcu.Fits (takeUpClamp s).rcu := by
  unfold takeUpClamp; (try dsimp only); (repeat' split) <;> first | (with_reducible exact hP) | (simp +contextual (maxDischargeDepth := 12) [hP]; done)

@[simp] theorem clearClamp_rcuFits (s : State) (hP : Rcu.Fits s.rcu) : Rcu.Fits (clearClamp s).rcu := by
  unfold clearClamp; (try dsimp only); (repeat' split) <;> first | (with_reducible exact hP) | (simp +contextual (maxDischargeDepth := 12) [hP]; done)

@[simp] theorem startBeam_rcuFits (s : State) (hP : Rcu.Fits s.rcu) : Rcu.Fits (startBeam s).rcu := by
  unfold startBeam; (try dsimp only); (repeat' split) <;> first | (with_reducible exact hP) | (simp +contextual (maxDischargeDepth := 12) [hP]; done)

@[simp] theorem motionNote_rcuFits (m : Bool) (n : Note) (s : State) (hP : Rcu.Fits s.rcu) : Rcu.Fits (motionNote m n s).rcu := by
  unfold motionNote; (try dsimp only); (repeat' split) <;> first | (with_reducible exact hP) | (simp +contextual (maxDischargeDepth := 12) [hP]; done)

@[simp] theorem faultBeam_rcuFits (cause : Nat) (s : State) (hP : Rcu.Fits s.rcu) : Rcu.Fits (faultBeam cause s).rcu := by
  unfold faultBeam; (try dsimp only); (repeat' split) <;> first | (with_reducible exact hP) | (simp +contextual (maxDischargeDepth := 12) [hP]; done)

@[simp] theorem indexOpens_rcuFits (s : State) (hP : Rcu.Fits s.rcu) : Rcu.Fits (indexOpens s).rcu := by
  unfold indexOpens; (try dsimp only); (repeat' split) <;> first | (with_reducible exact hP) | (simp +contextual (maxDischargeDepth := 12) [hP]; done)

@[simp] theorem indexCloses_rcuFits (s : State) (hP : Rcu.Fits s.rcu) : Rcu.Fits (indexCloses s).rcu := by
  unfold indexCloses; (try dsimp only); (repeat' split) <;> first | (with_reducible exact hP) | (simp +contextual (maxDischargeDepth := 12) [hP]; done)

@[simp] theorem putElev_rcuFits (m : MagName) (e : Elev) (s : State) (hP : Rcu.Fits s.rcu) : Rcu.Fits (putElev m e s).rcu := by
  unfold putElev; (try dsimp only); (repeat' split) <;> first | (with_reducible exact hP) | (simp +contextual (maxDischargeDepth := 12) [hP]; done)

@[simp] theorem chooseTarget_rcuFits (m : MagName) (s : State) (hP : Rcu.Fits s.rcu) : Rcu.Fits (chooseTarget m s).rcu := by
  unfold chooseTarget; (try dsimp only); (repeat' split) <;> first | (with_reducible exact hP) | (simp +contextual (maxDischargeDepth := 12) [hP]; done)

@[simp] theorem scanEnd_rcuFits (m : MagName) (s : State) (hP : Rcu.Fits s.rcu) : Rcu.Fits (scanEnd m s).rcu := by
  unfold scanEnd; (try dsimp only); (repeat' split) <;> first | (with_reducible exact hP) | (simp +contextual (maxDischargeDepth := 12) [hP]; done)

@[simp] theorem scanSlot_rcuFits (m : MagName) (i : Nat) (s : State) (hP : Rcu.Fits s.rcu) : Rcu.Fits (scanSlot m i s).rcu := by
  unfold scanSlot; (try dsimp only); (repeat' split) <;> first | (with_reducible exact hP) | (simp +contextual (maxDischargeDepth := 12) [hP]; done)

@[simp] theorem homeFound_rcuFits (m : MagName) (s : State) (hP : Rcu.Fits s.rcu) : Rcu.Fits (homeFound m s).rcu := by
  unfold homeFound; (try dsimp only); (repeat' split) <;> first | (with_reducible exact hP) | (simp +contextual (maxDischargeDepth := 12) [hP]; done)

@[simp] theorem startHoming_rcuFits (m : MagName) (s : State) (hP : Rcu.Fits s.rcu) : Rcu.Fits (startHoming m s).rcu := by
  unfold startHoming; (try dsimp only); (repeat' split) <;> first | (with_reducible exact hP) | (simp +contextual (maxDischargeDepth := 12) [hP]; done)

@[simp] theorem takeUpElev_rcuFits (m : MagName) (s : State) (hP : Rcu.Fits s.rcu) : Rcu.Fits (takeUpElev m s).rcu := by
  unfold takeUpElev; (try dsimp only); (repeat' split) <;> first | (with_reducible exact hP) | (simp +contextual (maxDischargeDepth := 12) [hP]; done)

@[simp] theorem stepElev_rcuFits (m : MagName) (s : State) (hP : Rcu.Fits s.rcu) : Rcu.Fits (stepElev m s).rcu := by
  unfold stepElev; (try dsimp only); (repeat' split) <;> first | (with_reducible exact hP) | (simp +contextual (maxDischargeDepth := 12) [hP]; done)

@[simp] theorem putPush_rcuFits (p : PusherName) (x : Push) (s : State) (hP : Rcu.Fits s.rcu) : Rcu.Fits (putPush p x s).rcu := by
  unfold putPush; (try dsimp only); (repeat' split) <;> first | (with_reducible exact hP) | (simp +contextual (maxDischargeDepth := 12) [hP]; done)

@[simp] theorem faultPush_rcuFits (p : PusherName) (s : State) (hP : Rcu.Fits s.rcu) : Rcu.Fits (faultPush p s).rcu := by
  unfold faultPush; (try dsimp only); (repeat' split) <;> first | (with_reducible exact hP) | (simp +contextual (maxDischargeDepth := 12) [hP]; done)

@[simp] theorem takeUpPush_rcuFits (p : PusherName) (s : State) (hP : Rcu.Fits s.rcu) : Rcu.Fits (takeUpPush p s).rcu := by
  unfold takeUpPush; (try dsimp only); (repeat' split) <;> first | (with_reducible exact hP) | (simp +contextual (maxDischargeDepth := 12) [hP]; done)

@[simp] theorem countMissed_rcuFits (id : Nat) (s : State) (hP : Rcu.Fits s.rcu) : Rcu.Fits (countMissed id s).rcu := by
  unfold countMissed; (try dsimp only); (repeat' split) <;> first | (with_reducible exact hP) | (simp +contextual (maxDischargeDepth := 12) [hP]; done)

@[simp] theorem report_rcuFits (p : PusherName) (n : Note) (s : State) (hP : Rcu.Fits s.rcu) : Rcu.Fits (report p n s).rcu := by
  unfold report; (try dsimp only); (repeat' split) <;> first | (with_reducible exact hP) | (simp +contextual (maxDischargeDepth := 12) [hP]; done)

@[simp] theorem finishPush_rcuFits (p : PusherName) (s : State) (hP : Rcu.Fits s.rcu) : Rcu.Fits (finishPush p s).rcu := by
  unfold finishPush; (try dsimp only); (repeat' split) <;> first | (with_reducible exact hP) | (simp +contextual (maxDischargeDepth := 12) [hP]; done)

@[simp] theorem pushAnswered_rcuFits (applied : Bool) (n : Note) (p : PusherName) (s : State) (hP : Rcu.Fits s.rcu) : Rcu.Fits (pushAnswered applied n p s).rcu := by
  unfold pushAnswered; (try dsimp only); (repeat' split) <;> first | (with_reducible exact hP) | (simp +contextual (maxDischargeDepth := 12) [hP]; done)

@[simp] theorem takeSeated_rcuFits (s : State) (hP : Rcu.Fits s.rcu) : Rcu.Fits (takeSeated s).rcu := by
  unfold takeSeated; (try dsimp only); (repeat' split) <;> first | (with_reducible exact hP) | (simp +contextual (maxDischargeDepth := 12) [hP]; done)

@[simp] theorem takeRemoved_rcuFits (s : State) (hP : Rcu.Fits s.rcu) : Rcu.Fits (takeRemoved s).rcu := by
  unfold takeRemoved; (try dsimp only); (repeat' split) <;> first | (with_reducible exact hP) | (simp +contextual (maxDischargeDepth := 12) [hP]; done)

@[simp] theorem takeUpFeed_rcuFits (s : State) (hP : Rcu.Fits s.rcu) : Rcu.Fits (takeUpFeed s).rcu := by
  unfold takeUpFeed; (try dsimp only); (repeat' split) <;> first | (with_reducible exact hP) | (simp +contextual (maxDischargeDepth := 12) [hP]; done)

@[simp] theorem takeUpUnload_rcuFits (s : State) (hP : Rcu.Fits s.rcu) : Rcu.Fits (takeUpUnload s).rcu := by
  unfold takeUpUnload; (try dsimp only); (repeat' split) <;> first | (with_reducible exact hP) | (simp +contextual (maxDischargeDepth := 12) [hP]; done)

@[simp] theorem takeUp_rcuFits (s : State) (hP : Rcu.Fits s.rcu) : Rcu.Fits (takeUp s).rcu := by
  unfold takeUp; (try dsimp only); (repeat' split) <;> first | (with_reducible exact hP) | (simp +contextual (maxDischargeDepth := 12) [hP]; done)

@[simp] theorem giveUp_rcuFits (s : State) (hP : Rcu.Fits s.rcu) : Rcu.Fits (giveUp s).rcu := by
  unfold giveUp; (try dsimp only); (repeat' split) <;> first | (with_reducible exact hP) | (simp +contextual (maxDischargeDepth := 12) [hP]; done)

@[simp] theorem restElev_rcuFits (m : MagName) (s : State) (hP : Rcu.Fits s.rcu) : Rcu.Fits (restElev m s).rcu :=
  putElev_rcuFits _ _ _ hP

@[simp] theorem restElevs_rcuFits (s : State) (hP : Rcu.Fits s.rcu) : Rcu.Fits (restElevs s).rcu :=
  restElev_rcuFits _ _ (restElev_rcuFits _ _ (restElev_rcuFits _ _ hP))

@[simp] theorem restartTmu_rcuFits (s : State) (hP : Rcu.Fits s.rcu) : Rcu.Fits (restartTmu s).rcu := by
  unfold restartTmu; (try dsimp only); (repeat' split) <;> first | (with_reducible exact hP) | (simp +contextual (maxDischargeDepth := 12) [hP]; done)

@[simp] theorem judgeMags_rcuFits (s : State) (hP : Rcu.Fits s.rcu) : Rcu.Fits (judgeMags s).rcu := by
  unfold judgeMags; (try dsimp only); (repeat' split) <;> first | (with_reducible exact hP) | (simp +contextual (maxDischargeDepth := 12) [hP]; done)

@[simp] theorem settleClampWait_rcuFits (s : State) (hP : Rcu.Fits s.rcu) : Rcu.Fits (settleClampWait s).rcu := by
  unfold settleClampWait; (try dsimp only); (repeat' split) <;> first | (with_reducible exact hP) | (simp +contextual (maxDischargeDepth := 12) [hP]; done)

@[simp] theorem closeClass_rcuFits (c : Nat) (s : State) (hP : Rcu.Fits s.rcu) : Rcu.Fits (closeClass c s).rcu := by
  unfold closeClass; (try dsimp only); (repeat' split) <;> first | (with_reducible exact hP) | (simp +contextual (maxDischargeDepth := 12) [hP]; done)

@[simp] theorem judgeHolds_rcuFits (failing : Bool) (old : State) (s : State) (hP : Rcu.Fits s.rcu) : Rcu.Fits (judgeHolds failing old s).rcu := by
  unfold judgeHolds; (try dsimp only); (repeat' split) <;> first | (with_reducible exact hP) | (simp +contextual (maxDischargeDepth := 12) [hP]; done)

@[simp] theorem reView_rcuFits (failing : Bool) (old : State) (s : State) (hP : Rcu.Fits s.rcu) : Rcu.Fits (reView failing old s).rcu := by
  unfold reView; (try dsimp only); (repeat' split) <;> first | (with_reducible exact hP) | (simp +contextual (maxDischargeDepth := 12) [hP]; done)

@[simp] theorem moveLost_rcuFits (s : State) (hP : Rcu.Fits s.rcu) : Rcu.Fits (moveLost s).rcu := by
  unfold moveLost; (try dsimp only); (repeat' split) <;> first | (with_reducible exact hP) | (simp +contextual (maxDischargeDepth := 12) [hP]; done)

@[simp] theorem claimApplied_rcuFits (w u g : Nat) (s : State) (hP : Rcu.Fits s.rcu) : Rcu.Fits (claimApplied w u g s).rcu := by
  unfold claimApplied; (try dsimp only); (repeat' split) <;> first | (with_reducible exact hP) | (simp +contextual (maxDischargeDepth := 12) [hP]; done)

@[simp] theorem indexStarted_rcuFits (s : State) (hP : Rcu.Fits s.rcu) : Rcu.Fits (indexStarted s).rcu := by
  unfold indexStarted; (try dsimp only); (repeat' split) <;> first | (with_reducible exact hP) | (simp +contextual (maxDischargeDepth := 12) [hP]; done)

@[simp] theorem indexEnded_rcuFits (shift : Bool) (s : State) (hP : Rcu.Fits s.rcu) : Rcu.Fits (indexEnded shift s).rcu := by
  unfold indexEnded; (try dsimp only); (repeat' split) <;> first | (with_reducible exact hP) | (simp +contextual (maxDischargeDepth := 12) [hP]; done)

@[simp] theorem retarget_rcuFits (m : MagName) (s : State) (hP : Rcu.Fits s.rcu) : Rcu.Fits (retarget m s).rcu := by
  unfold retarget; (try dsimp only); (repeat' split) <;> first | (with_reducible exact hP) | (simp +contextual (maxDischargeDepth := 12) [hP]; done)

@[simp] theorem reseek_rcuFits (m : MagName) (s : State) (hP : Rcu.Fits s.rcu) : Rcu.Fits (reseek m s).rcu := by
  unfold reseek; (try dsimp only); (repeat' split) <;> first | (with_reducible exact hP) | (simp +contextual (maxDischargeDepth := 12) [hP]; done)

@[simp] theorem loadedAnswered_rcuFits (m : Nat) (ev : Nat) (s : State) (hP : Rcu.Fits s.rcu) : Rcu.Fits (loadedAnswered m ev s).rcu := by
  unfold loadedAnswered; (try dsimp only); (repeat' split) <;> first | (with_reducible exact hP) | (simp +contextual (maxDischargeDepth := 12) [hP]; done)

@[simp] theorem pushersAnswered_rcuFits (applied : Bool) (n : Note) (s : State) (hP : Rcu.Fits s.rcu) : Rcu.Fits (pushersAnswered applied n s).rcu := by
  unfold pushersAnswered; (try dsimp only); (repeat' split) <;> first | (with_reducible exact hP) | (simp +contextual (maxDischargeDepth := 12) [hP]; done)

@[simp] theorem pullApplied_rcuFits (p : Plan) (own : Bool) (sender index : Nat) (n : PullNote) (s : State) (hP : Rcu.Fits s.rcu) : Rcu.Fits (pullApplied p own sender index n s).rcu := by
  unfold pullApplied; (try dsimp only); (repeat' split) <;> first | (with_reducible exact hP) | (simp +contextual (maxDischargeDepth := 12) [hP]; done)

@[simp] theorem stripGone_rcuFits (id : Nat) (s : State) (hP : Rcu.Fits s.rcu) : Rcu.Fits (stripGone id s).rcu := by
  unfold stripGone; (try dsimp only); (repeat' split) <;> first | (with_reducible exact hP) | (simp +contextual (maxDischargeDepth := 12) [hP]; done)

@[simp] theorem tellApplied_rcuFits (p : Plan) (own : Bool) (sender : Nat) (t t' : Table) (n : Note) (s : State) (hP : Rcu.Fits s.rcu) : Rcu.Fits (tellApplied p own sender t t' n s).rcu := by
  unfold tellApplied; (try dsimp only); (repeat' split) <;> first | (with_reducible exact hP) | (simp +contextual (maxDischargeDepth := 12) [hP]; done)

@[simp] theorem tellRefused_rcuFits (n : Note) (s : State) (hP : Rcu.Fits s.rcu) : Rcu.Fits (tellRefused n s).rcu := by
  unfold tellRefused; (try dsimp only); (repeat' split) <;> first | (with_reducible exact hP) | (simp +contextual (maxDischargeDepth := 12) [hP]; done)

@[simp] theorem tellUnread_rcuFits (n : Note) (s : State) (hP : Rcu.Fits s.rcu) : Rcu.Fits (tellUnread n s).rcu := by
  unfold tellUnread; (try dsimp only); (repeat' split) <;> first | (with_reducible exact hP) | (simp +contextual (maxDischargeDepth := 12) [hP]; done)

@[simp] theorem putTable_rcuFits (t : Table) (s : State) (hP : Rcu.Fits s.rcu) : Rcu.Fits (putTable t s).rcu := by
  unfold putTable; (try dsimp only); (repeat' split) <;> first | (with_reducible exact hP) | (simp +contextual (maxDischargeDepth := 12) [hP]; done)

@[simp] theorem noteApplied_rcuFits (p : Plan) (c : NoteCtx) (t t' : Table) (n : Note) (s : State) (hP : Rcu.Fits s.rcu) : Rcu.Fits (noteApplied p c t t' n s).rcu := by
  unfold noteApplied; (try dsimp only); (repeat' split) <;> first | (with_reducible exact hP) | (simp +contextual (maxDischargeDepth := 12) [hP]; done)

@[simp] theorem noteRefused_rcuFits (c : NoteCtx) (n : Note) (s : State) (hP : Rcu.Fits s.rcu) : Rcu.Fits (noteRefused c n s).rcu := by
  unfold noteRefused; (try dsimp only); (repeat' split) <;> first | (with_reducible exact hP) | (simp +contextual (maxDischargeDepth := 12) [hP]; done)

@[simp] theorem copierNote_rcuFits (p : Plan) (c : NoteCtx) (t : Table) (n : Note) (s : State) (hP : Rcu.Fits s.rcu) : Rcu.Fits (copierNote p c t n s).rcu := by
  unfold copierNote; (try dsimp only); (repeat' split) <;> first | (with_reducible exact hP) | (simp +contextual (maxDischargeDepth := 12) [hP]; done)

@[simp] theorem handNote_rcuFits (f : Frame) (n : Note) (s : State) (hP : Rcu.Fits s.rcu) : Rcu.Fits (handNote f n s).rcu := by
  unfold handNote; (try dsimp only); (repeat' split) <;> first | (with_reducible exact hP) | (simp +contextual (maxDischargeDepth := 12) [hP]; done)

@[simp] theorem enterResync_rcuFits (p : Plan) (s : State) (hP : Rcu.Fits s.rcu) : Rcu.Fits (enterResync p s).rcu := by
  unfold enterResync; (try dsimp only); (repeat' split) <;> first | (with_reducible exact hP) | (simp +contextual (maxDischargeDepth := 12) [hP]; done)

@[simp] theorem tableCompleted_rcuFits (s : State) (hP : Rcu.Fits s.rcu) : Rcu.Fits (tableCompleted s).rcu := by
  unfold tableCompleted; (try dsimp only); (repeat' split) <;> first | (with_reducible exact hP) | (simp +contextual (maxDischargeDepth := 12) [hP]; done)

@[simp] theorem leaveResync_rcuFits (s : State) (hP : Rcu.Fits s.rcu) : Rcu.Fits (leaveResync s).rcu := by
  unfold leaveResync; (try dsimp only); (repeat' split) <;> first | (with_reducible exact hP) | (simp +contextual (maxDischargeDepth := 12) [hP]; done)

@[simp] theorem checkClaims_rcuFits (w lo : Nat) (s : State) (hP : Rcu.Fits s.rcu) : Rcu.Fits (checkClaims w lo s).rcu := by
  unfold checkClaims; (try dsimp only); (repeat' split) <;> first | (with_reducible exact hP) | (simp +contextual (maxDischargeDepth := 12) [hP]; done)

@[simp] theorem retargetCopied_rcuFits (n : Nat) (s : State) (hP : Rcu.Fits s.rcu) : Rcu.Fits (retargetCopied n s).rcu := by
  unfold retargetCopied; (try dsimp only); (repeat' split) <;> first | (with_reducible exact hP) | (simp +contextual (maxDischargeDepth := 12) [hP]; done)

@[simp] theorem takeSection_rcuFits (p : Plan) (n : Nat) (body : List Byte) (s : State) (hP : Rcu.Fits s.rcu) : Rcu.Fits (takeSection p n body s).rcu := by
  unfold takeSection; (try dsimp only); (repeat' split) <;> first | (with_reducible exact hP) | (simp +contextual (maxDischargeDepth := 12) [hP]; done)

@[simp] theorem handHeader_rcuFits (f : Frame) (s : State) (hP : Rcu.Fits s.rcu) : Rcu.Fits (handHeader f s).rcu := by
  unfold handHeader; (try dsimp only); (repeat' split) <;> first | (with_reducible exact hP) | (simp +contextual (maxDischargeDepth := 12) [hP]; done)

@[simp] theorem unreadableHeard_rcuFits (s : State) (hP : Rcu.Fits s.rcu) : Rcu.Fits (unreadableHeard s).rcu := by
  unfold unreadableHeard; (try dsimp only); (repeat' split) <;> first | (with_reducible exact hP) | (simp +contextual (maxDischargeDepth := 12) [hP]; done)

@[simp] theorem absence_rcuFits (k : Nat) (s : State) (hP : Rcu.Fits s.rcu) : Rcu.Fits (absence k s).rcu := by
  unfold absence; (try dsimp only); (repeat' split) <;> first | (with_reducible exact hP) | (simp +contextual (maxDischargeDepth := 12) [hP]; done)

@[simp] theorem resyncExpired_rcuFits (s : State) (hP : Rcu.Fits s.rcu) : Rcu.Fits (resyncExpired s).rcu := by
  unfold resyncExpired; (try dsimp only); (repeat' split) <;> first | (with_reducible exact hP) | (simp +contextual (maxDischargeDepth := 12) [hP]; done)

@[simp] theorem discardTable_rcuFits (s : State) (hP : Rcu.Fits s.rcu) : Rcu.Fits (discardTable s).rcu := by
  unfold discardTable; (try dsimp only); (repeat' split) <;> first | (with_reducible exact hP) | (simp +contextual (maxDischargeDepth := 12) [hP]; done)

@[simp] theorem beginGather_rcuFits (s : State) (hP : Rcu.Fits s.rcu) : Rcu.Fits (beginGather s).rcu := by
  unfold beginGather; (try dsimp only); (repeat' split) <;> first | (with_reducible exact hP) | (simp +contextual (maxDischargeDepth := 12) [hP]; done)

@[simp] theorem startFresh_rcuFits (s : State) (hP : Rcu.Fits s.rcu) : Rcu.Fits (startFresh s).rcu := by
  unfold startFresh; (try dsimp only); (repeat' split) <;> first | (with_reducible exact hP) | (simp +contextual (maxDischargeDepth := 12) [hP]; done)

@[simp] theorem becomeActive_rcuFits (s : State) (hP : Rcu.Fits s.rcu) : Rcu.Fits (becomeActive s).rcu := by
  unfold becomeActive; (try dsimp only); (repeat' split) <;> first | (with_reducible exact hP) | (simp +contextual (maxDischargeDepth := 12) [hP]; done)

@[simp] theorem checkJoin_rcuFits (s : State) (hP : Rcu.Fits s.rcu) : Rcu.Fits (checkJoin s).rcu := by
  unfold checkJoin; (try dsimp only); (repeat' split) <;> first | (with_reducible exact hP) | (simp +contextual (maxDischargeDepth := 12) [hP]; done)

@[simp] theorem countJoin_rcuFits (gath : Bool) (s : State) (hP : Rcu.Fits s.rcu) : Rcu.Fits (countJoin gath s).rcu := by
  unfold countJoin; (try dsimp only); (repeat' split) <;> first | (with_reducible exact hP) | (simp +contextual (maxDischargeDepth := 12) [hP]; done)

@[simp] theorem watches_rcuFits (sender due res : Bool) (s : State) (hP : Rcu.Fits s.rcu) : Rcu.Fits (watches sender due res s).rcu := by
  unfold watches; (try dsimp only); (repeat' split) <;> first | (with_reducible exact hP) | (simp +contextual (maxDischargeDepth := 12) [hP]; done)

@[simp] theorem clearStaging_rcuFits (s : State) (hP : Rcu.Fits s.rcu) : Rcu.Fits (clearStaging s).rcu := by
  unfold clearStaging; (try dsimp only); (repeat' split) <;> first | (with_reducible exact hP) | (simp +contextual (maxDischargeDepth := 12) [hP]; done)

@[simp] theorem discardPlan_rcuFits (s : State) (hP : Rcu.Fits s.rcu) : Rcu.Fits (discardPlan s).rcu := by
  unfold discardPlan; (try dsimp only); (repeat' split) <;> first | (with_reducible exact hP) | (simp +contextual (maxDischargeDepth := 12) [hP]; done)

@[simp] theorem holdPlan_rcuFits (p : Plan) (s : State) (hP : Rcu.Fits s.rcu) : Rcu.Fits (holdPlan p s).rcu := by
  unfold holdPlan; (try dsimp only); (repeat' split) <;> first | (with_reducible exact hP) | (simp +contextual (maxDischargeDepth := 12) [hP]; done)

@[simp] theorem refusePlan_rcuFits (s : State) (hP : Rcu.Fits s.rcu) : Rcu.Fits (refusePlan s).rcu := by
  unfold refusePlan; (try dsimp only); (repeat' split) <;> first | (with_reducible exact hP) | (simp +contextual (maxDischargeDepth := 12) [hP]; done)

@[simp] theorem tryComplete_rcuFits (s : State) (hP : Rcu.Fits s.rcu) : Rcu.Fits (tryComplete s).rcu := by
  unfold tryComplete; (try dsimp only); (repeat' split) <;> first | (with_reducible exact hP) | (simp +contextual (maxDischargeDepth := 12) [hP]; done)

@[simp] theorem stagePlan_rcuFits (id off : Nat) (bs : List Byte) (s : State) (hP : Rcu.Fits s.rcu) : Rcu.Fits (stagePlan id off bs s).rcu := by
  unfold stagePlan; (try dsimp only); (repeat' split) <;> first | (with_reducible exact hP) | (simp +contextual (maxDischargeDepth := 12) [hP]; done)

@[simp] theorem countIgnored_rcuFits (s : State) (hP : Rcu.Fits s.rcu) : Rcu.Fits (countIgnored s).rcu := by
  unfold countIgnored; (try dsimp only); (repeat' split) <;> first | (with_reducible exact hP) | (simp +contextual (maxDischargeDepth := 12) [hP]; done)

@[simp] theorem handlePlan_rcuFits (id off : Nat) (bs : List Byte) (s : State) (hP : Rcu.Fits s.rcu) : Rcu.Fits (handlePlan id off bs s).rcu := by
  unfold handlePlan; (try dsimp only); (repeat' split) <;> first | (with_reducible exact hP) | (simp +contextual (maxDischargeDepth := 12) [hP]; done)

@[simp] theorem compareTarget_rcuFits (s : State) (hP : Rcu.Fits s.rcu) : Rcu.Fits (compareTarget s).rcu := by
  unfold compareTarget; (try dsimp only); (repeat' split) <;> first | (with_reducible exact hP) | (simp +contextual (maxDischargeDepth := 12) [hP]; done)

@[simp] theorem endAbsent_rcuFits (s : State) (hP : Rcu.Fits s.rcu) : Rcu.Fits (endAbsent s).rcu := by
  unfold endAbsent; (try dsimp only); (repeat' split) <;> first | (with_reducible exact hP) | (simp +contextual (maxDischargeDepth := 12) [hP]; done)

@[simp] theorem endResync_rcuFits (s : State) (hP : Rcu.Fits s.rcu) : Rcu.Fits (endResync s).rcu := by
  unfold endResync; (try dsimp only); (repeat' split) <;> first | (with_reducible exact hP) | (simp +contextual (maxDischargeDepth := 12) [hP]; done)

@[simp] theorem enterListen_rcuFits (silenced : Bool) (s : State) (hP : Rcu.Fits s.rcu) : Rcu.Fits (enterListen silenced s).rcu := by
  unfold enterListen; (try dsimp only); (repeat' split) <;> first | (with_reducible exact hP) | (simp +contextual (maxDischargeDepth := 12) [hP]; done)

@[simp] theorem leaveListen_rcuFits (s : State) (hP : Rcu.Fits s.rcu) : Rcu.Fits (leaveListen s).rcu := by
  unfold leaveListen; (try dsimp only); (repeat' split) <;> first | (with_reducible exact hP) | (simp +contextual (maxDischargeDepth := 12) [hP]; done)

@[simp] theorem loseFeed_rcuFits (s : State) (hP : Rcu.Fits s.rcu) : Rcu.Fits (loseFeed s).rcu := by
  unfold loseFeed; (try dsimp only); (repeat' split) <;> first | (with_reducible exact hP) | (simp +contextual (maxDischargeDepth := 12) [hP]; done)

@[simp] theorem loseUnload_rcuFits (s : State) (hP : Rcu.Fits s.rcu) : Rcu.Fits (loseUnload s).rcu := by
  unfold loseUnload; (try dsimp only); (repeat' split) <;> first | (with_reducible exact hP) | (simp +contextual (maxDischargeDepth := 12) [hP]; done)

@[simp] theorem loseDuties_rcuFits (s : State) (hP : Rcu.Fits s.rcu) : Rcu.Fits (loseDuties s).rcu := by
  unfold loseDuties; (try dsimp only); (repeat' split) <;> first | (with_reducible exact hP) | (simp +contextual (maxDischargeDepth := 12) [hP]; done)

@[simp] theorem dropToJoining_rcuFits (s : State) (hP : Rcu.Fits s.rcu) : Rcu.Fits (dropToJoining s).rcu := by
  unfold dropToJoining; (try dsimp only); (repeat' split) <;> first | (with_reducible exact hP) | (simp +contextual (maxDischargeDepth := 12) [hP]; done)

@[simp] theorem planConflict_rcuFits (f : Frame) (s : State) (hP : Rcu.Fits s.rcu) : Rcu.Fits (planConflict f s).rcu := by
  unfold planConflict; (try dsimp only); (repeat' split) <;> first | (with_reducible exact hP) | (simp +contextual (maxDischargeDepth := 12) [hP]; done)

@[simp] theorem beginRestartCheck_rcuFits (s : State) (hP : Rcu.Fits s.rcu) : Rcu.Fits (beginRestartCheck s).rcu := by
  unfold beginRestartCheck; simp [hP]

@[simp] theorem restProgress_rcuFits (s : State) (hP : Rcu.Fits s.rcu) : Rcu.Fits (restProgress s).rcu := by
  unfold restProgress; (try dsimp only); (repeat' split) <;> first | (with_reducible exact hP) | (simp +contextual (maxDischargeDepth := 12) [hP]; done)

@[simp] theorem beginRestart_rcuFits (s : State) (hP : Rcu.Fits s.rcu) : Rcu.Fits (beginRestart s).rcu := by
  unfold beginRestart; (try dsimp only); (repeat' split) <;> first | (with_reducible exact hP) | (simp +contextual (maxDischargeDepth := 12) [hP]; done)

@[simp] theorem restandAlarms_rcuFits (s : State) (hP : Rcu.Fits s.rcu) : Rcu.Fits (restandAlarms s).rcu := by
  unfold restandAlarms; (try dsimp only); (repeat' split) <;> first | (with_reducible exact hP) | (simp +contextual (maxDischargeDepth := 12) [hP]; done)

@[simp] theorem endSelfCheck_rcuFits (failed : List CheckItem) (s : State) (hP : Rcu.Fits s.rcu) : Rcu.Fits (endSelfCheck failed s).rcu := by
  unfold endSelfCheck; (try dsimp only); (repeat' split) <;> first | (with_reducible exact hP) | (simp +contextual (maxDischargeDepth := 12) [hP]; done)

@[simp] theorem dropBuilt_rcuFits (s : State) (n : Note) (hP : Rcu.Fits s.rcu) : Rcu.Fits (dropBuilt s n).rcu := by
  unfold dropBuilt; (try dsimp only); (repeat' split) <;> first | (with_reducible exact hP) | (simp +contextual (maxDischargeDepth := 12) [hP]; done)

@[simp] theorem buildFrame_rcuFits (s : State) (hP : Rcu.Fits s.rcu) : Rcu.Fits (buildFrame s).rcu := by
  unfold buildFrame; (try dsimp only); (repeat' split) <;> first | (with_reducible exact hP) | (simp +contextual (maxDischargeDepth := 12) [hP]; done)

@[simp] theorem sendCold_rcuFits (s : State) (hP : Rcu.Fits s.rcu) : Rcu.Fits (sendCold s).rcu := by
  unfold sendCold; (try dsimp only); (repeat' split) <;> first | (with_reducible exact hP) | (simp +contextual (maxDischargeDepth := 12) [hP]; done)

@[simp] theorem judgeAbsent_rcuFits (s : State) (hP : Rcu.Fits s.rcu) : Rcu.Fits (judgeAbsent s).rcu := by
  unfold judgeAbsent; (try dsimp only); (repeat' split) <;> first | (with_reducible exact hP) | (simp +contextual (maxDischargeDepth := 12) [hP]; done)

@[simp] theorem countSilence_rcuFits (k : Nat) (s : State) (hP : Rcu.Fits s.rcu) : Rcu.Fits (countSilence k s).rcu := by
  unfold countSilence; (try dsimp only); (repeat' split) <;> first | (with_reducible exact hP) | (simp +contextual (maxDischargeDepth := 12) [hP]; done)

@[simp] theorem failTransmit_rcuFits (s : State) (hP : Rcu.Fits s.rcu) : Rcu.Fits (failTransmit s).rcu := by
  unfold failTransmit; (try dsimp only); (repeat' split) <;> first | (with_reducible exact hP) | (simp +contextual (maxDischargeDepth := 12) [hP]; done)

@[simp] theorem passOwn_rcuFits (k : Nat) (round : Half) (s : State) (hP : Rcu.Fits s.rcu) : Rcu.Fits (passOwn k round s).rcu := by
  unfold passOwn; (try dsimp only); (repeat' split) <;> first | (with_reducible exact hP) | (simp +contextual (maxDischargeDepth := 12) [hP]; done)

@[simp] theorem voteUnseen_rcuFits (k : Nat) (s : State) (hP : Rcu.Fits s.rcu) : Rcu.Fits (voteUnseen k s).rcu := by
  unfold voteUnseen; (try dsimp only); (repeat' split) <;> first | (with_reducible exact hP) | (simp +contextual (maxDischargeDepth := 12) [hP]; done)

@[simp] theorem endSlot_rcuFits (k : Nat) (round : Half) (gath res : Bool) (s : State) (hP : Rcu.Fits s.rcu) : Rcu.Fits (endSlot k round gath res s).rcu := by
  unfold endSlot; (try dsimp only); (repeat' split) <;> first | (with_reducible exact hP) | (simp +contextual (maxDischargeDepth := 12) [hP]; done)

@[simp] theorem endSilent_rcuFits (s : State) (hP : Rcu.Fits s.rcu) : Rcu.Fits (endSilent s).rcu := by
  unfold endSilent; (try dsimp only); (repeat' split) <;> first | (with_reducible exact hP) | (simp +contextual (maxDischargeDepth := 12) [hP]; done)

@[simp] theorem silentSlot_rcuFits (s : State) (hP : Rcu.Fits s.rcu) : Rcu.Fits (silentSlot s).rcu := by
  unfold silentSlot; (try dsimp only); (repeat' split) <;> first | (with_reducible exact hP) | (simp +contextual (maxDischargeDepth := 12) [hP]; done)

@[simp] theorem silentSlots_rcuFits (n : Nat) (s : State) (hP : Rcu.Fits s.rcu) : Rcu.Fits (silentSlots n s).rcu := by
  induction n generalizing s with
  | zero => simpa [silentSlots] using hP
  | succ n ih => exact ih _ (by simp (maxDischargeDepth := 12) [hP])

@[simp] theorem dropVoteRec_rcuFits (passes : Bool) (s : State) (hP : Rcu.Fits s.rcu) : Rcu.Fits (dropVoteRec passes s).rcu := by
  unfold dropVoteRec; (try dsimp only); (repeat' split) <;> first | (with_reducible exact hP) | (simp +contextual (maxDischargeDepth := 12) [hP]; done)

@[simp] theorem correctSlot_rcuFits (f : Frame) (s : State) (hP : Rcu.Fits s.rcu) : Rcu.Fits (correctSlot f s).rcu := by
  unfold correctSlot; (try dsimp only); (repeat' split) <;> first | (with_reducible exact hP) | (simp +contextual (maxDischargeDepth := 12) [hP]; done)

@[simp] theorem hearRoster_rcuFits (f : Frame) (s : State) (hP : Rcu.Fits s.rcu) : Rcu.Fits (hearRoster f s).rcu := by
  unfold hearRoster; (try dsimp only); (repeat' split) <;> first | (with_reducible exact hP) | (simp +contextual (maxDischargeDepth := 12) [hP]; done)

@[simp] theorem handAddressed_rcuFits (from_ : Nat) (s : State) (n : Note) (hP : Rcu.Fits s.rcu) : Rcu.Fits (handAddressed from_ s n).rcu := by
  unfold handAddressed; (try dsimp only); (repeat' split) <;> first | (with_reducible exact hP) | (simp +contextual (maxDischargeDepth := 12) [hP]; done)

@[simp] theorem handPlan_rcuFits (s : State) (n : Note) (hP : Rcu.Fits s.rcu) : Rcu.Fits (handPlan s n).rcu := by
  unfold handPlan; (try dsimp only); (repeat' split) <;> first | (with_reducible exact hP) | (simp +contextual (maxDischargeDepth := 12) [hP]; done)

@[simp] theorem handPlans_rcuFits (f : Frame) (s : State) (hP : Rcu.Fits s.rcu) : Rcu.Fits (handPlans f s).rcu := by
  unfold handPlans; (try dsimp only); (repeat' split) <;> first | (with_reducible exact hP) | (simp +contextual (maxDischargeDepth := 12) [hP]; done)

@[simp] theorem handleFrame_rcuFits (f : Frame) (s : State) (hP : Rcu.Fits s.rcu) : Rcu.Fits (handleFrame f s).rcu := by
  unfold handleFrame; (try dsimp only); (repeat' split) <;> first | (with_reducible exact hP) | (simp +contextual (maxDischargeDepth := 12) [hP]; done)

@[simp] theorem afterFrame_rcuFits (f : Frame) (own gath res : Bool) (s : State) (hP : Rcu.Fits s.rcu) : Rcu.Fits (afterFrame f own gath res s).rcu := by
  unfold afterFrame; (try dsimp only); (repeat' split) <;> first | (with_reducible exact hP) | (simp +contextual (maxDischargeDepth := 12) [hP]; done)

@[simp] theorem hearDuplicate_rcuFits (s : State) (hP : Rcu.Fits s.rcu) : Rcu.Fits (hearDuplicate s).rcu := by
  unfold hearDuplicate; (try dsimp only); (repeat' split) <;> first | (with_reducible exact hP) | (simp +contextual (maxDischargeDepth := 12) [hP]; done)

@[simp] theorem silencedFrame_rcuFits (f : Frame) (s : State) (hP : Rcu.Fits s.rcu) : Rcu.Fits (silencedFrame f s).rcu := by
  unfold silencedFrame; dsimp only
  refine foldl_rFits _ ?_ _ _ ?_
  · intro s n h; split <;> simp [h]
  · split <;> simp (maxDischargeDepth := 12) [hP]

@[simp] theorem readableFrame_rcuFits (f : Frame) (own : Bool) (s : State) (hP : Rcu.Fits s.rcu) : Rcu.Fits (readableFrame f own s).rcu := by
  unfold readableFrame; (try dsimp only); (repeat' split) <;> first | (with_reducible exact hP) | (simp +contextual (maxDischargeDepth := 12) [hP]; done)

@[simp] theorem unreadableFrame_rcuFits (mine : Bool) (s : State) (hP : Rcu.Fits s.rcu) : Rcu.Fits (unreadableFrame mine s).rcu := by
  unfold unreadableFrame; (try dsimp only); (repeat' split) <;> first | (with_reducible exact hP) | (simp +contextual (maxDischargeDepth := 12) [hP]; done)

@[simp] theorem idleLine_rcuFits (s : State) (hP : Rcu.Fits s.rcu) : Rcu.Fits (idleLine s).rcu := by
  unfold idleLine; (try dsimp only); (repeat' split) <;> first | (with_reducible exact hP) | (simp +contextual (maxDischargeDepth := 12) [hP]; done)

@[simp] theorem redraw_rcuFits (s : State) (hP : Rcu.Fits s.rcu) : Rcu.Fits (redraw s).rcu := by
  unfold redraw; (try dsimp only); (repeat' split) <;> first | (with_reducible exact hP) | (simp +contextual (maxDischargeDepth := 12) [hP]; done)

@[simp] theorem finish_rcuFits (s : State) (hP : Rcu.Fits s.rcu) : Rcu.Fits (finish s).rcu := by
  unfold finish; (try dsimp only); (repeat' split) <;> first | (with_reducible exact hP) | (simp +contextual (maxDischargeDepth := 12) [hP]; done)

@[simp] theorem conclude_rcuFits (always : Bool) (old : State) (s : State) (hP : Rcu.Fits s.rcu) : Rcu.Fits (conclude always old s).rcu := by
  unfold conclude; (try dsimp only); (repeat' split) <;> first | (with_reducible exact hP) | (simp +contextual (maxDischargeDepth := 12) [hP]; done)

@[simp] theorem moveCursor_rcuFits (d : Arrow) (s : State) (hP : Rcu.Fits s.rcu) : Rcu.Fits (moveCursor d s).rcu := by
  unfold moveCursor; (try dsimp only); (repeat' split) <;> first | (with_reducible exact hP) | (simp +contextual (maxDischargeDepth := 12) [hP]; done)

@[simp] theorem recoverIndex_rcuFits (s : State) (hP : Rcu.Fits s.rcu) : Rcu.Fits (recoverIndex s).rcu := by
  unfold recoverIndex; (try dsimp only); (repeat' split) <;> first | (with_reducible exact hP) | (simp +contextual (maxDischargeDepth := 12) [hP]; done)

@[simp] theorem handClear_rcuFits (s : State) (hP : Rcu.Fits s.rcu) : Rcu.Fits (handClear s).rcu := by
  unfold handClear; (try dsimp only); (repeat' split) <;> first | (with_reducible exact hP) | (simp +contextual (maxDischargeDepth := 12) [hP]; done)

@[simp] theorem placeHoldOff_rcuFits (s : State) (c : Nat) (hP : Rcu.Fits s.rcu) : Rcu.Fits (placeHoldOff s c).rcu := by
  unfold placeHoldOff; (try dsimp only); (repeat' split) <;> first | (with_reducible exact hP) | (simp +contextual (maxDischargeDepth := 12) [hP]; done)

@[simp] theorem handHoldRel_rcuFits (s : State) (hP : Rcu.Fits s.rcu) : Rcu.Fits (handHoldRel s).rcu := by
  unfold handHoldRel; (try dsimp only); (repeat' split) <;> first | (with_reducible exact hP) | (simp +contextual (maxDischargeDepth := 12) [hP]; done)

@[simp] theorem handSkip_rcuFits (s : State) (hP : Rcu.Fits s.rcu) : Rcu.Fits (handSkip s).rcu := by
  unfold handSkip; (try dsimp only); (repeat' split) <;> first | (with_reducible exact hP) | (simp +contextual (maxDischargeDepth := 12) [hP]; done)

@[simp] theorem sendRow_rcuFits (s : State) (hP : Rcu.Fits s.rcu) : Rcu.Fits (sendRow s).rcu := by
  unfold sendRow; (try dsimp only); (repeat' split) <;> first | (with_reducible exact hP) | (simp +contextual (maxDischargeDepth := 12) [hP]; done)

@[simp] theorem rowSent_rcuFits (s : State) (hP : Rcu.Fits s.rcu) : Rcu.Fits (rowSent s).rcu := by
  unfold rowSent; (try dsimp only); (repeat' split) <;> first | (with_reducible exact hP) | (simp +contextual (maxDischargeDepth := 12) [hP]; done)

@[simp] theorem recordDone_rcuFits (s : State) (hP : Rcu.Fits s.rcu) : Rcu.Fits (recordDone s).rcu := by
  unfold recordDone; split
  · dsimp only
    apply Rcu.Fits_fill
    split
    · exact hP
    · rename_i hq
      refine Rcu.Fits_freeEntry _ _ ⟨?_, ?_⟩
      · have h8 := hP.1
        have : s.rcu.queue = _ :: _ := hq
        rw [this] at h8; simp at h8; simpa using Nat.le_of_lt h8
      · simpa [Rcu.advance, Rcu.setBlock, Rcu.free] using hP.2
  · exact hP

@[simp] theorem recordFailed_rcuFits (s : State) (hP : Rcu.Fits s.rcu) : Rcu.Fits (recordFailed s).rcu := by
  unfold recordFailed; split
  · rename_i i slot num before _
    have hc : ∀ fl, (countFailure { s with flash := fl, rcu := { s.rcu.free.goBad i with newest := before } }).rcu.Fits :=
      fun fl => countFailure_rcuFits _ hP
    dsimp only; split
    · exact Rcu.Fits_discard _ _ ⟨Nat.zero_le _, (hc _).2⟩
    · exact hc _
  · exact hP

@[simp] theorem headerDone_rcuFits (s : State) (hP : Rcu.Fits s.rcu) : Rcu.Fits (headerDone s).rcu := by
  unfold headerDone; (try dsimp only); (repeat' split) <;> first | (with_reducible exact hP) | (simp +contextual (maxDischargeDepth := 12) [hP]; done)

@[simp] theorem headerFailed_rcuFits (s : State) (hP : Rcu.Fits s.rcu) : Rcu.Fits (headerFailed s).rcu := by
  unfold headerFailed; (try dsimp only); (repeat' split) <;> first | (with_reducible exact hP) | (simp +contextual (maxDischargeDepth := 12) [hP]; done)

@[simp] theorem eraseFinished_rcuFits (s : State) (hP : Rcu.Fits s.rcu) : Rcu.Fits (eraseFinished s).rcu := by
  unfold eraseFinished; (try dsimp only); (repeat' split) <;> first | (with_reducible exact hP) | (simp +contextual (maxDischargeDepth := 12) [hP]; done)

@[simp] theorem eraseFailed_rcuFits (s : State) (hP : Rcu.Fits s.rcu) : Rcu.Fits (eraseFailed s).rcu := by
  unfold eraseFailed; (try dsimp only); (repeat' split) <;> first | (with_reducible exact hP) | (simp +contextual (maxDischargeDepth := 12) [hP]; done)

@[simp] theorem badMarkEnded_rcuFits (completed : Bool) (s : State) (hP : Rcu.Fits s.rcu) : Rcu.Fits (badMarkEnded completed s).rcu := by
  unfold badMarkEnded; (try dsimp only); (repeat' split) <;> first | (with_reducible exact hP) | (simp +contextual (maxDischargeDepth := 12) [hP]; done)

@[simp] theorem retracted_rcuFits (readBack : Byte) (s : State) (hP : Rcu.Fits s.rcu) : Rcu.Fits (retracted readBack s).rcu := by
  unfold retracted; (try dsimp only); (repeat' split) <;> first | (with_reducible exact hP) | (simp +contextual (maxDischargeDepth := 12) [hP]; done)

@[simp] theorem recordRead_rcuFits (s : State) (hP : Rcu.Fits s.rcu) : Rcu.Fits (recordRead s).rcu := by
  unfold recordRead; (try dsimp only); (repeat' split) <;> first | (with_reducible exact hP) | (simp +contextual (maxDischargeDepth := 12) [hP]; done)

@[simp] theorem endMount_rcuFits (answered : Bool) (s : State) (hP : Rcu.Fits s.rcu) : Rcu.Fits (endMount answered s).rcu := by
  unfold endMount; (try dsimp only); (repeat' split) <;> first | (with_reducible exact hP) | (simp +contextual (maxDischargeDepth := 12) [hP]; done)

@[simp] theorem afterSlot_rcuFits (s : State) (hP : Rcu.Fits s.rcu) : Rcu.Fits (afterSlot s).rcu := by
  unfold afterSlot; (try dsimp only); (repeat' split) <;> first | (with_reducible exact hP) | (simp +contextual (maxDischargeDepth := 12) [hP]; done)

@[simp] theorem quietExpired_rcuFits (s : State) (hP : Rcu.Fits s.rcu) : Rcu.Fits (quietExpired s).rcu := by
  unfold quietExpired; (try dsimp only); (repeat' split) <;> first | (with_reducible exact hP) | (simp +contextual (maxDischargeDepth := 12) [hP]; done)

@[simp] theorem unreadableEnd_rcuFits (s : State) (hP : Rcu.Fits s.rcu) : Rcu.Fits (unreadableEnd s).rcu := by
  unfold unreadableEnd; (try dsimp only); (repeat' split) <;> first | (with_reducible exact hP) | (simp +contextual (maxDischargeDepth := 12) [hP]; done)

@[simp] theorem frameEnd_rcuFits (chars : List Byte) (s : State) (hP : Rcu.Fits s.rcu) : Rcu.Fits (frameEnd chars s).rcu := by
  unfold frameEnd; (try dsimp only); (repeat' split) <;> first | (with_reducible exact hP) | (simp +contextual (maxDischargeDepth := 12) [hP]; done)

@[simp] theorem badFrameEnd_rcuFits (s : State) (hP : Rcu.Fits s.rcu) : Rcu.Fits (badFrameEnd s).rcu := by
  unfold badFrameEnd; (try dsimp only); (repeat' split) <;> first | (with_reducible exact hP) | (simp +contextual (maxDischargeDepth := 12) [hP]; done)

@[simp] theorem slotEnds_rcuFits (lv : Levels) (s : State) (hP : Rcu.Fits s.rcu) : Rcu.Fits (slotEnds lv s).rcu := by
  unfold slotEnds; (try dsimp only); (repeat' split) <;> first | (with_reducible exact hP) | (simp +contextual (maxDischargeDepth := 12) [hP]; done)

@[simp] theorem unsend_rcuFits (s : State) (hP : Rcu.Fits s.rcu) : Rcu.Fits (unsend s).rcu := by
  unfold unsend; (try dsimp only); (repeat' split) <;> first | (with_reducible exact hP) | (simp +contextual (maxDischargeDepth := 12) [hP]; done)

@[simp] theorem missDeadline_rcuFits (s : State) (hP : Rcu.Fits s.rcu) : Rcu.Fits (missDeadline s).rcu := by
  unfold missDeadline; (try dsimp only); (repeat' split) <;> first | (with_reducible exact hP) | (simp +contextual (maxDischargeDepth := 12) [hP]; done)

@[simp] theorem coldMismatch_rcuFits (s : State) (hP : Rcu.Fits s.rcu) : Rcu.Fits (coldMismatch s).rcu := by
  unfold coldMismatch; (try dsimp only); (repeat' split) <;> first | (with_reducible exact hP) | (simp +contextual (maxDischargeDepth := 12) [hP]; done)

@[simp] theorem mismatch_rcuFits (s : State) (hP : Rcu.Fits s.rcu) : Rcu.Fits (mismatch s).rcu := by
  unfold mismatch; (try dsimp only); (repeat' split) <;> first | (with_reducible exact hP) | (simp +contextual (maxDischargeDepth := 12) [hP]; done)

@[simp] theorem taktExpired_rcuFits (s : State) (hP : Rcu.Fits s.rcu) : Rcu.Fits (taktExpired s).rcu := by
  unfold taktExpired; (try dsimp only); (repeat' split) <;> first | (with_reducible exact hP) | (simp +contextual (maxDischargeDepth := 12) [hP]; done)

@[simp] theorem clampWaitExpired_rcuFits (s : State) (hP : Rcu.Fits s.rcu) : Rcu.Fits (clampWaitExpired s).rcu := by
  unfold clampWaitExpired; (try dsimp only); (repeat' split) <;> first | (with_reducible exact hP) | (simp +contextual (maxDischargeDepth := 12) [hP]; done)

@[simp] theorem headAlerted_rcuFits (a : AlertKind) (s : State) (hP : Rcu.Fits s.rcu) : Rcu.Fits (headAlerted a s).rcu := by
  unfold headAlerted; (try dsimp only); (repeat' split) <;> first | (with_reducible exact hP) | (simp +contextual (maxDischargeDepth := 12) [hP]; done)

@[simp] theorem takeByte_rcuFits (is : Byte → Bool) (act : Byte → Ocu → Ocu) (s : State) (hP : Rcu.Fits s.rcu) :
    Rcu.Fits (takeByte is act s).rcu := hP

@[simp] theorem takeKey_rcuFits (c : Byte) (hand : State → State) (hA : ∀ s : State, Rcu.Fits s.rcu → Rcu.Fits (hand s).rcu) (s : State)
    (hP : Rcu.Fits s.rcu) : Rcu.Fits (takeKey c hand s).rcu := by
  unfold takeKey
  (repeat' split) <;> first | exact hP | exact hA _ hP

@[simp] theorem clampOpened_rcuFits (s : State) (hP : Rcu.Fits s.rcu) : Rcu.Fits (clampOpened s).rcu := by
  unfold clampOpened; (try dsimp only); (repeat' split) <;> first | (with_reducible exact hP) | (simp +contextual (maxDischargeDepth := 12) [hP]; done)

@[simp] theorem openLimit_rcuFits (s : State) (hP : Rcu.Fits s.rcu) : Rcu.Fits (openLimit s).rcu := by
  unfold openLimit; (try dsimp only); (repeat' split) <;> first | (with_reducible exact hP) | (simp +contextual (maxDischargeDepth := 12) [hP]; done)

@[simp] theorem beamDone_rcuFits (s : State) (hP : Rcu.Fits s.rcu) : Rcu.Fits (beamDone s).rcu := by
  unfold beamDone; (try dsimp only); (repeat' split) <;> first | (with_reducible exact hP) | (simp +contextual (maxDischargeDepth := 12) [hP]; done)

@[simp] theorem removeMagazine_rcuFits (m : MagName) (s : State) (hP : Rcu.Fits s.rcu) : Rcu.Fits (removeMagazine m s).rcu := by
  unfold removeMagazine; (try dsimp only); (repeat' split) <;> first | (with_reducible exact hP) | (simp +contextual (maxDischargeDepth := 12) [hP]; done)

@[simp] theorem startPush_rcuFits (p : PusherName) (s : State) (hP : Rcu.Fits s.rcu) : Rcu.Fits (startPush p s).rcu := by
  unfold startPush; (try dsimp only); (repeat' split) <;> first | (with_reducible exact hP) | (simp +contextual (maxDischargeDepth := 12) [hP]; done)

@[simp] theorem pushExpired_rcuFits (p : PusherName) (s : State) (hP : Rcu.Fits s.rcu) : Rcu.Fits (pushExpired p s).rcu := by
  unfold pushExpired; (try dsimp only); (repeat' split) <;> first | (with_reducible exact hP) | (simp +contextual (maxDischargeDepth := 12) [hP]; done)

@[simp] theorem clampClosed_rcuFits (s : State) (hP : Rcu.Fits s.rcu) : Rcu.Fits (clampClosed s).rcu := by
  unfold clampClosed; (try dsimp only); (repeat' split) <;> first | (with_reducible exact hP) | (simp +contextual (maxDischargeDepth := 12) [hP]; done)

@[simp] theorem beamHomed_rcuFits (s : State) (hP : Rcu.Fits s.rcu) : Rcu.Fits (beamHomed s).rcu := by
  unfold beamHomed; (try dsimp only); (repeat' split) <;> first | (with_reducible exact hP) | (simp +contextual (maxDischargeDepth := 12) [hP]; done)

@[simp] theorem insertMagazine_rcuFits (m : MagName) (s : State) (hP : Rcu.Fits s.rcu) : Rcu.Fits (insertMagazine m s).rcu := by
  unfold insertMagazine; (try dsimp only); (repeat' split) <;> first | (with_reducible exact hP) | (simp +contextual (maxDischargeDepth := 12) [hP]; done)

@[simp] theorem viewUp_rcuFits (s : State) (hP : Rcu.Fits s.rcu) : Rcu.Fits (viewUp s).rcu := by
  unfold viewUp; (try dsimp only); (repeat' split) <;> first | (with_reducible exact hP) | (simp +contextual (maxDischargeDepth := 12) [hP]; done)

@[simp] theorem viewDown_rcuFits (s : State) (hP : Rcu.Fits s.rcu) : Rcu.Fits (viewDown s).rcu := by
  unfold viewDown; (try dsimp only); (repeat' split) <;> first | (with_reducible exact hP) | (simp +contextual (maxDischargeDepth := 12) [hP]; done)

@[simp] theorem poweredOn_rcuFits (x : Straps) (lv : Levels) (m : List Host.Cell) (n : Nat) (q : List Instr) :
    Rcu.Fits (State.poweredOn x lv m n q).rcu := Rcu.Fits_reset

end Sys2Proof.Machine
end

