-- ==== Sys2Proof/Laws/State.lean ====
section
/-! SUPPORT. What each named update does to each part of the state: the lemmas by which no proof unfolds a record update. -/

set_option linter.all false

namespace Sys2Proof.Machine

@[simp] theorem place_su (p : Producer) (n : Note) (s : State) : (place p n s).su = s.su := rfl
@[simp] theorem place_lnk (p : Producer) (n : Note) (s : State) : (place p n s).lnk = s.lnk.request p n := rfl
@[simp] theorem place_ctu (p : Producer) (n : Note) (s : State) : (place p n s).ctu = s.ctu := rfl
@[simp] theorem place_wsc (p : Producer) (n : Note) (s : State) : (place p n s).wsc = s.wsc := rfl
@[simp] theorem place_tmu (p : Producer) (n : Note) (s : State) : (place p n s).tmu = s.tmu := rfl
@[simp] theorem place_rcu (p : Producer) (n : Note) (s : State) : (place p n s).rcu = s.rcu := rfl
@[simp] theorem place_ocu (p : Producer) (n : Note) (s : State) : (place p n s).ocu = s.ocu := rfl
@[simp] theorem place_flash (p : Producer) (n : Note) (s : State) : (place p n s).flash = s.flash := rfl
@[simp] theorem place_free (p : Producer) (n : Note) (s : State) : (place p n s).free = s.free := rfl
@[simp] theorem place_pending (p : Producer) (n : Note) (s : State) : (place p n s).pending = s.pending := rfl

@[simp] theorem raise_su (a : Alarm) (s : State) : (raise a s).su = s.su := rfl
@[simp] theorem raise_lnk (a : Alarm) (s : State) : (raise a s).lnk = s.lnk := rfl
@[simp] theorem raise_ctu (a : Alarm) (s : State) : (raise a s).ctu = s.ctu := rfl
@[simp] theorem raise_wsc (a : Alarm) (s : State) : (raise a s).wsc = s.wsc := rfl
@[simp] theorem raise_bsq (a : Alarm) (s : State) : (raise a s).bsq = s.bsq := rfl
@[simp] theorem raise_tmu (a : Alarm) (s : State) : (raise a s).tmu = s.tmu := rfl
@[simp] theorem raise_rcu (a : Alarm) (s : State) : (raise a s).rcu = s.rcu := rfl
@[simp] theorem raise_ocu (a : Alarm) (s : State) : (raise a s).ocu = s.ocu.raise a s.indexNow := rfl
@[simp] theorem raise_flash (a : Alarm) (s : State) : (raise a s).flash = s.flash := rfl
@[simp] theorem raise_free (a : Alarm) (s : State) : (raise a s).free = s.free := rfl
@[simp] theorem raise_pending (a : Alarm) (s : State) : (raise a s).pending = s.pending := rfl

@[simp] theorem clearAlarm_su (a : Alarm) (s : State) : (clearAlarm a s).su = s.su := rfl
@[simp] theorem clearAlarm_lnk (a : Alarm) (s : State) : (clearAlarm a s).lnk = s.lnk := rfl
@[simp] theorem clearAlarm_ctu (a : Alarm) (s : State) : (clearAlarm a s).ctu = s.ctu := rfl
@[simp] theorem clearAlarm_wsc (a : Alarm) (s : State) : (clearAlarm a s).wsc = s.wsc := rfl
@[simp] theorem clearAlarm_bsq (a : Alarm) (s : State) : (clearAlarm a s).bsq = s.bsq := rfl
@[simp] theorem clearAlarm_tmu (a : Alarm) (s : State) : (clearAlarm a s).tmu = s.tmu := rfl
@[simp] theorem clearAlarm_rcu (a : Alarm) (s : State) : (clearAlarm a s).rcu = s.rcu := rfl
@[simp] theorem clearAlarm_ocu (a : Alarm) (s : State) : (clearAlarm a s).ocu = s.ocu.settleAlarm a := rfl
@[simp] theorem clearAlarm_flash (a : Alarm) (s : State) : (clearAlarm a s).flash = s.flash := rfl
@[simp] theorem clearAlarm_free (a : Alarm) (s : State) : (clearAlarm a s).free = s.free := rfl
@[simp] theorem clearAlarm_pending (a : Alarm) (s : State) : (clearAlarm a s).pending = s.pending := rfl

@[simp] theorem edgeAlarm_su (a : Alarm) (b c : Bool) (s : State) : (edgeAlarm a b c s).su =
    s.su := by unfold edgeAlarm; (repeat' split) <;> rfl
@[simp] theorem edgeAlarm_lnk (a : Alarm) (b c : Bool) (s : State) : (edgeAlarm a b c s).lnk =
    s.lnk := by unfold edgeAlarm; (repeat' split) <;> rfl
@[simp] theorem edgeAlarm_ctu (a : Alarm) (b c : Bool) (s : State) : (edgeAlarm a b c s).ctu =
    s.ctu := by unfold edgeAlarm; (repeat' split) <;> rfl
@[simp] theorem edgeAlarm_wsc (a : Alarm) (b c : Bool) (s : State) : (edgeAlarm a b c s).wsc =
    s.wsc := by unfold edgeAlarm; (repeat' split) <;> rfl
@[simp] theorem edgeAlarm_bsq (a : Alarm) (b c : Bool) (s : State) : (edgeAlarm a b c s).bsq =
    s.bsq := by unfold edgeAlarm; (repeat' split) <;> rfl
@[simp] theorem edgeAlarm_tmu (a : Alarm) (b c : Bool) (s : State) : (edgeAlarm a b c s).tmu =
    s.tmu := by unfold edgeAlarm; (repeat' split) <;> rfl
@[simp] theorem edgeAlarm_rcu (a : Alarm) (b c : Bool) (s : State) : (edgeAlarm a b c s).rcu =
    s.rcu := by unfold edgeAlarm; (repeat' split) <;> rfl
@[simp] theorem edgeAlarm_flash (a : Alarm) (b c : Bool) (s : State) : (edgeAlarm a b c s).flash =
    s.flash := by unfold edgeAlarm; (repeat' split) <;> rfl
@[simp] theorem edgeAlarm_free (a : Alarm) (b c : Bool) (s : State) : (edgeAlarm a b c s).free =
    s.free := by unfold edgeAlarm; (repeat' split) <;> rfl
@[simp] theorem edgeAlarm_pending (a : Alarm) (b c : Bool) (s : State) : (edgeAlarm a b c s).pending =
    s.pending := by unfold edgeAlarm; (repeat' split) <;> rfl

@[simp] theorem sense_su (lv : Levels) (s : State) : (sense lv s).su = s.su := rfl
@[simp] theorem sense_lnk (lv : Levels) (s : State) : (sense lv s).lnk = s.lnk := rfl
@[simp] theorem sense_ctu (lv : Levels) (s : State) : (sense lv s).ctu = s.ctu := rfl
@[simp] theorem sense_wsc (lv : Levels) (s : State) : (sense lv s).wsc = s.wsc := rfl
@[simp] theorem sense_bsq (lv : Levels) (s : State) : (sense lv s).bsq = s.bsq := rfl
@[simp] theorem sense_tmu (lv : Levels) (s : State) : (sense lv s).tmu =
    { s.tmu with levels := lv, transfer := if s.tmu.beamStarted then lv.transferMoved else s.tmu.transfer } := rfl
@[simp] theorem sense_rcu (lv : Levels) (s : State) : (sense lv s).rcu = s.rcu := rfl
@[simp] theorem sense_ocu (lv : Levels) (s : State) : (sense lv s).ocu = s.ocu := rfl
@[simp] theorem sense_flash (lv : Levels) (s : State) : (sense lv s).flash = s.flash := rfl
@[simp] theorem sense_free (lv : Levels) (s : State) : (sense lv s).free = s.free := rfl
@[simp] theorem sense_pending (lv : Levels) (s : State) : (sense lv s).pending = s.pending := rfl

@[simp] theorem setHead_su (h : HeadPos) (s : State) : (setHead h s).su = s.su := rfl
@[simp] theorem setHead_lnk (h : HeadPos) (s : State) : (setHead h s).lnk = s.lnk := rfl
@[simp] theorem setHead_ctu (h : HeadPos) (s : State) : (setHead h s).ctu = s.ctu := rfl
@[simp] theorem setHead_wsc (h : HeadPos) (s : State) : (setHead h s).wsc = s.wsc := rfl
@[simp] theorem setHead_bsq (h : HeadPos) (s : State) : (setHead h s).bsq = { s.bsq with head := h } := rfl
@[simp] theorem setHead_tmu (h : HeadPos) (s : State) : (setHead h s).tmu = s.tmu := rfl
@[simp] theorem setHead_rcu (h : HeadPos) (s : State) : (setHead h s).rcu = s.rcu := rfl
@[simp] theorem setHead_ocu (h : HeadPos) (s : State) : (setHead h s).ocu = s.ocu := rfl
@[simp] theorem setHead_flash (h : HeadPos) (s : State) : (setHead h s).flash = s.flash := rfl
@[simp] theorem setHead_free (h : HeadPos) (s : State) : (setHead h s).free = s.free := rfl
@[simp] theorem setHead_pending (h : HeadPos) (s : State) : (setHead h s).pending = s.pending := rfl

@[simp] theorem sendHead_su (c : HeadCmd) (s : State) : (sendHead c s).su = s.su := rfl
@[simp] theorem sendHead_lnk (c : HeadCmd) (s : State) : (sendHead c s).lnk = s.lnk := rfl
@[simp] theorem sendHead_ctu (c : HeadCmd) (s : State) : (sendHead c s).ctu = s.ctu := rfl
@[simp] theorem sendHead_wsc (c : HeadCmd) (s : State) : (sendHead c s).wsc = s.wsc := rfl
@[simp] theorem sendHead_bsq (c : HeadCmd) (s : State) : (sendHead c s).bsq =
    { s.bsq with out := some ⟨c, s.bsq.nextTag, (s.su.held.map (·.headTimeout)).getD 2000⟩, nextTag := s.bsq.nextTag + 1 } := rfl
@[simp] theorem sendHead_tmu (c : HeadCmd) (s : State) : (sendHead c s).tmu = s.tmu := rfl
@[simp] theorem sendHead_rcu (c : HeadCmd) (s : State) : (sendHead c s).rcu = s.rcu := rfl
@[simp] theorem sendHead_ocu (c : HeadCmd) (s : State) : (sendHead c s).ocu = s.ocu := rfl
@[simp] theorem sendHead_flash (c : HeadCmd) (s : State) : (sendHead c s).flash = s.flash := rfl
@[simp] theorem sendHead_free (c : HeadCmd) (s : State) : (sendHead c s).free = s.free := rfl
@[simp] theorem sendHead_pending (c : HeadCmd) (s : State) : (sendHead c s).pending = s.pending := rfl

@[simp] theorem reportEnd_su (n : Note) (s : State) : (reportEnd n s).su = s.su := rfl
@[simp] theorem reportEnd_lnk (n : Note) (s : State) : (reportEnd n s).lnk = s.lnk.request .wsc n := rfl
@[simp] theorem reportEnd_ctu (n : Note) (s : State) : (reportEnd n s).ctu = s.ctu := rfl
@[simp] theorem reportEnd_wsc (n : Note) (s : State) : (reportEnd n s).wsc = s.wsc := rfl
@[simp] theorem reportEnd_bsq (n : Note) (s : State) : (reportEnd n s).bsq = s.bsq.leave := rfl
@[simp] theorem reportEnd_tmu (n : Note) (s : State) : (reportEnd n s).tmu = s.tmu := rfl
@[simp] theorem reportEnd_rcu (n : Note) (s : State) : (reportEnd n s).rcu = s.rcu := rfl
@[simp] theorem reportEnd_ocu (n : Note) (s : State) : (reportEnd n s).ocu = s.ocu := rfl
@[simp] theorem reportEnd_flash (n : Note) (s : State) : (reportEnd n s).flash = s.flash := rfl
@[simp] theorem reportEnd_free (n : Note) (s : State) : (reportEnd n s).free = s.free := rfl
@[simp] theorem reportEnd_pending (n : Note) (s : State) : (reportEnd n s).pending = s.pending := rfl

@[simp] theorem dropClaims_su (f : OwnClaim → Bool) (s : State) : (dropClaims f s).su = s.su := rfl
@[simp] theorem dropClaims_lnk (f : OwnClaim → Bool) (s : State) : (dropClaims f s).lnk = s.lnk := rfl
@[simp] theorem dropClaims_ctu (f : OwnClaim → Bool) (s : State) : (dropClaims f s).ctu = s.ctu := rfl
@[simp] theorem dropClaims_wsc (f : OwnClaim → Bool) (s : State) : (dropClaims f s).wsc =
    { s.wsc with claims := s.wsc.claims.filter fun e => !f e } := rfl
@[simp] theorem dropClaims_bsq (f : OwnClaim → Bool) (s : State) : (dropClaims f s).bsq = s.bsq := rfl
@[simp] theorem dropClaims_tmu (f : OwnClaim → Bool) (s : State) : (dropClaims f s).tmu = s.tmu := rfl
@[simp] theorem dropClaims_rcu (f : OwnClaim → Bool) (s : State) : (dropClaims f s).rcu =
    (s.wsc.claims.filter f).foldl (fun r e => r.unreserve e.strip e.unit e.group) s.rcu := rfl
@[simp] theorem dropClaims_ocu (f : OwnClaim → Bool) (s : State) : (dropClaims f s).ocu = s.ocu := rfl
@[simp] theorem dropClaims_flash (f : OwnClaim → Bool) (s : State) : (dropClaims f s).flash = s.flash := rfl
@[simp] theorem dropClaims_free (f : OwnClaim → Bool) (s : State) : (dropClaims f s).free = s.free := rfl
@[simp] theorem dropClaims_pending (f : OwnClaim → Bool) (s : State) : (dropClaims f s).pending = s.pending := rfl

@[simp] theorem loseClaim_su (w u g : Nat) (s : State) : (loseClaim w u g s).su = s.su := rfl
@[simp] theorem loseClaim_lnk (w u g : Nat) (s : State) : (loseClaim w u g s).lnk = s.lnk := rfl
@[simp] theorem loseClaim_ctu (w u g : Nat) (s : State) : (loseClaim w u g s).ctu = s.ctu := rfl
@[simp] theorem loseClaim_wsc (w u g : Nat) (s : State) : (loseClaim w u g s).wsc =
    { s.wsc with claims := s.wsc.claims.filter fun e => !e.isTask w u g } := rfl
@[simp] theorem loseClaim_bsq (w u g : Nat) (s : State) : (loseClaim w u g s).bsq = s.bsq.lose w u g := rfl
@[simp] theorem loseClaim_tmu (w u g : Nat) (s : State) : (loseClaim w u g s).tmu = s.tmu := rfl
@[simp] theorem loseClaim_rcu (w u g : Nat) (s : State) : (loseClaim w u g s).rcu =
    (s.wsc.claims.filter (OwnClaim.isTask w u g)).foldl (fun r e => r.unreserve e.strip e.unit e.group) s.rcu := rfl
@[simp] theorem loseClaim_ocu (w u g : Nat) (s : State) : (loseClaim w u g s).ocu = s.ocu := rfl
@[simp] theorem loseClaim_flash (w u g : Nat) (s : State) : (loseClaim w u g s).flash = s.flash := rfl
@[simp] theorem loseClaim_free (w u g : Nat) (s : State) : (loseClaim w u g s).free = s.free := rfl
@[simp] theorem loseClaim_pending (w u g : Nat) (s : State) : (loseClaim w u g s).pending = s.pending := rfl

@[simp] theorem startTakt_su (s : State) : (startTakt s).su = s.su := rfl
@[simp] theorem startTakt_lnk (s : State) : (startTakt s).lnk = s.lnk := rfl
@[simp] theorem startTakt_ctu (s : State) : (startTakt s).ctu = s.ctu := rfl
@[simp] theorem startTakt_wsc (s : State) : (startTakt s).wsc = { s.wsc with takt := .running } := rfl
@[simp] theorem startTakt_bsq (s : State) : (startTakt s).bsq = s.bsq := rfl
@[simp] theorem startTakt_tmu (s : State) : (startTakt s).tmu = s.tmu := rfl
@[simp] theorem startTakt_rcu (s : State) : (startTakt s).rcu = s.rcu := rfl
@[simp] theorem startTakt_ocu (s : State) : (startTakt s).ocu = s.ocu := rfl
@[simp] theorem startTakt_flash (s : State) : (startTakt s).flash = s.flash := rfl
@[simp] theorem startTakt_free (s : State) : (startTakt s).free = s.free := rfl
@[simp] theorem startTakt_pending (s : State) : (startTakt s).pending = s.pending := rfl

@[simp] theorem clearWsc_su (s : State) : (clearWsc s).su = s.su := rfl
@[simp] theorem clearWsc_lnk (s : State) : (clearWsc s).lnk = s.lnk := rfl
@[simp] theorem clearWsc_ctu (s : State) : (clearWsc s).ctu = s.ctu := rfl
@[simp] theorem clearWsc_wsc (s : State) : (clearWsc s).wsc = .reset := rfl
@[simp] theorem clearWsc_bsq (s : State) : (clearWsc s).bsq = s.bsq := rfl
@[simp] theorem clearWsc_tmu (s : State) : (clearWsc s).tmu = s.tmu := rfl
@[simp] theorem clearWsc_rcu (s : State) : (clearWsc s).rcu =
    s.wsc.claims.foldl (fun r e => r.unreserve e.strip e.unit e.group) s.rcu := rfl
@[simp] theorem clearWsc_ocu (s : State) : (clearWsc s).ocu = s.ocu := rfl
@[simp] theorem clearWsc_flash (s : State) : (clearWsc s).flash = s.flash := rfl
@[simp] theorem clearWsc_free (s : State) : (clearWsc s).free = s.free := rfl
@[simp] theorem clearWsc_pending (s : State) : (clearWsc s).pending = s.pending := rfl

@[simp] theorem endStopped_su (s : State) : (endStopped s).su =
    s.su := by unfold endStopped; split <;> rfl
@[simp] theorem endStopped_lnk (s : State) : (endStopped s).lnk =
    s.lnk := by unfold endStopped; split <;> rfl
@[simp] theorem endStopped_tmu (s : State) : (endStopped s).tmu =
    s.tmu := by unfold endStopped; split <;> rfl
@[simp] theorem endStopped_ocu (s : State) : (endStopped s).ocu =
    s.ocu := by unfold endStopped; split <;> rfl
@[simp] theorem endStopped_ctu (s : State) : (endStopped s).ctu =
    s.ctu := by unfold endStopped; split <;> rfl
@[simp] theorem endStopped_flash (s : State) : (endStopped s).flash =
    s.flash := by unfold endStopped; split <;> rfl
@[simp] theorem endStopped_free (s : State) : (endStopped s).free =
    s.free := by unfold endStopped; split <;> rfl
@[simp] theorem endStopped_pending (s : State) : (endStopped s).pending =
    s.pending := by unfold endStopped; split <;> rfl

@[simp] theorem endSkips_su (f : SkipReq → Bool) (s : State) : (endSkips f s).su = s.su := rfl
@[simp] theorem endSkips_ctu (f : SkipReq → Bool) (s : State) : (endSkips f s).ctu = s.ctu := rfl
@[simp] theorem endSkips_bsq (f : SkipReq → Bool) (s : State) : (endSkips f s).bsq = s.bsq := rfl
@[simp] theorem endSkips_tmu (f : SkipReq → Bool) (s : State) : (endSkips f s).tmu = s.tmu := rfl
@[simp] theorem endSkips_rcu (f : SkipReq → Bool) (s : State) : (endSkips f s).rcu = s.rcu := rfl
@[simp] theorem endSkips_ocu (f : SkipReq → Bool) (s : State) : (endSkips f s).ocu = s.ocu := rfl
@[simp] theorem endSkips_flash (f : SkipReq → Bool) (s : State) : (endSkips f s).flash = s.flash := rfl
@[simp] theorem endSkips_free (f : SkipReq → Bool) (s : State) : (endSkips f s).free = s.free := rfl
@[simp] theorem endSkips_pending (f : SkipReq → Bool) (s : State) : (endSkips f s).pending = s.pending := rfl

@[simp] theorem dropStray_wsc (s : State) : (dropStray s).wsc = s.wsc := rfl
@[simp] theorem dropStray_su (s : State) : (dropStray s).su = s.su := rfl
@[simp] theorem dropStray_ctu (s : State) : (dropStray s).ctu = s.ctu := rfl
@[simp] theorem dropStray_bsq (s : State) : (dropStray s).bsq = s.bsq := rfl
@[simp] theorem dropStray_tmu (s : State) : (dropStray s).tmu = s.tmu := rfl
@[simp] theorem dropStray_rcu (s : State) : (dropStray s).rcu = s.rcu := rfl
@[simp] theorem dropStray_ocu (s : State) : (dropStray s).ocu = s.ocu := rfl
@[simp] theorem dropStray_flash (s : State) : (dropStray s).flash = s.flash := rfl
@[simp] theorem dropStray_free (s : State) : (dropStray s).free = s.free := rfl
@[simp] theorem dropStray_pending (s : State) : (dropStray s).pending = s.pending := rfl

@[simp] theorem settleStray_wsc (t : Table) (s : State) : (settleStray t s).wsc = s.wsc := by unfold settleStray; split <;> rfl
@[simp] theorem settleStray_su (t : Table) (s : State) : (settleStray t s).su = s.su := by unfold settleStray; split <;> rfl
@[simp] theorem settleStray_ctu (t : Table) (s : State) : (settleStray t s).ctu = s.ctu := by unfold settleStray; split <;> rfl
@[simp] theorem settleStray_bsq (t : Table) (s : State) : (settleStray t s).bsq = s.bsq := by unfold settleStray; split <;> rfl
@[simp] theorem settleStray_tmu (t : Table) (s : State) : (settleStray t s).tmu = s.tmu := by unfold settleStray; split <;> rfl
@[simp] theorem settleStray_rcu (t : Table) (s : State) : (settleStray t s).rcu = s.rcu := by unfold settleStray; split <;> rfl
@[simp] theorem settleStray_ocu (t : Table) (s : State) : (settleStray t s).ocu = s.ocu := by unfold settleStray; split <;> rfl
@[simp] theorem settleStray_flash (t : Table) (s : State) : (settleStray t s).flash = s.flash := by unfold settleStray; split <;> rfl
@[simp] theorem settleStray_free (t : Table) (s : State) : (settleStray t s).free = s.free := by unfold settleStray; split <;> rfl
@[simp] theorem settleStray_pending (t : Table) (s : State) : (settleStray t s).pending = s.pending := by unfold settleStray; split <;> rfl

@[simp] theorem endUntestable_lnk (n : PullNote) (s : State) : (endUntestable n s).lnk = s.lnk := by unfold endUntestable; split <;> rfl
@[simp] theorem endUntestable_su (n : PullNote) (s : State) : (endUntestable n s).su = s.su := by unfold endUntestable; split <;> rfl
@[simp] theorem endUntestable_ctu (n : PullNote) (s : State) : (endUntestable n s).ctu = s.ctu := by unfold endUntestable; split <;> rfl
@[simp] theorem endUntestable_bsq (n : PullNote) (s : State) : (endUntestable n s).bsq = s.bsq := by unfold endUntestable; split <;> rfl
@[simp] theorem endUntestable_tmu (n : PullNote) (s : State) : (endUntestable n s).tmu = s.tmu := by unfold endUntestable; split <;> rfl
@[simp] theorem endUntestable_rcu (n : PullNote) (s : State) : (endUntestable n s).rcu = s.rcu := by unfold endUntestable; split <;> rfl
@[simp] theorem endUntestable_ocu (n : PullNote) (s : State) : (endUntestable n s).ocu = s.ocu := by unfold endUntestable; split <;> rfl
@[simp] theorem endUntestable_flash (n : PullNote) (s : State) : (endUntestable n s).flash = s.flash := by unfold endUntestable; split <;> rfl
@[simp] theorem endUntestable_free (n : PullNote) (s : State) : (endUntestable n s).free = s.free := by unfold endUntestable; split <;> rfl
@[simp] theorem endUntestable_pending (n : PullNote) (s : State) : (endUntestable n s).pending = s.pending := by unfold endUntestable; split <;> rfl

@[simp] theorem stopEnded_su (s : State) : s.stopEnded.su = s.su := rfl
@[simp] theorem stopEnded_lnk (s : State) : s.stopEnded.lnk = s.lnk := rfl
@[simp] theorem stopEnded_ctu (s : State) : s.stopEnded.ctu = s.ctu := rfl
@[simp] theorem stopEnded_wsc (s : State) : s.stopEnded.wsc = s.wsc := rfl
@[simp] theorem stopEnded_tmu (s : State) : s.stopEnded.tmu = s.tmu := rfl
@[simp] theorem stopEnded_rcu (s : State) : s.stopEnded.rcu = s.rcu := rfl
@[simp] theorem stopEnded_ocu (s : State) : s.stopEnded.ocu = s.ocu := rfl
@[simp] theorem stopEnded_flash (s : State) : s.stopEnded.flash = s.flash := rfl
@[simp] theorem stopEnded_free (s : State) : s.stopEnded.free = s.free := rfl
@[simp] theorem stopEnded_pending (s : State) : s.stopEnded.pending = s.pending := rfl

@[simp] theorem putTable_su (t : Table) (s : State) : (putTable t s).su = s.su := rfl
@[simp] theorem putTable_lnk (t : Table) (s : State) : (putTable t s).lnk = s.lnk := rfl
@[simp] theorem putTable_ctu (t : Table) (s : State) : (putTable t s).ctu = { s.ctu with rep := some t } := rfl
@[simp] theorem putTable_wsc (t : Table) (s : State) : (putTable t s).wsc = s.wsc := rfl
@[simp] theorem putTable_bsq (t : Table) (s : State) : (putTable t s).bsq = s.bsq := rfl
@[simp] theorem putTable_tmu (t : Table) (s : State) : (putTable t s).tmu = s.tmu := rfl
@[simp] theorem putTable_rcu (t : Table) (s : State) : (putTable t s).rcu = s.rcu := rfl
@[simp] theorem putTable_ocu (t : Table) (s : State) : (putTable t s).ocu = s.ocu := rfl
@[simp] theorem putTable_flash (t : Table) (s : State) : (putTable t s).flash = s.flash := rfl
@[simp] theorem putTable_free (t : Table) (s : State) : (putTable t s).free = s.free := rfl
@[simp] theorem putTable_pending (t : Table) (s : State) : (putTable t s).pending = s.pending := rfl

@[simp] theorem setClamp_su (c : ClampSt) (s : State) : (setClamp c s).su =
    s.su := by unfold setClamp; dsimp only; (repeat' split) <;> rfl
@[simp] theorem setClamp_lnk (c : ClampSt) (s : State) : (setClamp c s).lnk =
    s.lnk := by unfold setClamp; dsimp only; (repeat' split) <;> rfl
@[simp] theorem setClamp_ctu (c : ClampSt) (s : State) : (setClamp c s).ctu =
    s.ctu := by unfold setClamp; dsimp only; (repeat' split) <;> rfl
@[simp] theorem setClamp_wsc (c : ClampSt) (s : State) : (setClamp c s).wsc =
    s.wsc := by unfold setClamp; dsimp only; (repeat' split) <;> rfl
@[simp] theorem setClamp_bsq (c : ClampSt) (s : State) : (setClamp c s).bsq =
    s.bsq := by unfold setClamp; dsimp only; (repeat' split) <;> rfl
@[simp] theorem setClamp_tmu (c : ClampSt) (s : State) : (setClamp c s).tmu =
    { s.tmu with clamp := c, openTakeUp := false } := by unfold setClamp; dsimp only; (repeat' split) <;> rfl
@[simp] theorem setClamp_rcu (c : ClampSt) (s : State) : (setClamp c s).rcu =
    s.rcu := by unfold setClamp; dsimp only; (repeat' split) <;> rfl
@[simp] theorem setClamp_flash (c : ClampSt) (s : State) : (setClamp c s).flash =
    s.flash := by unfold setClamp; dsimp only; (repeat' split) <;> rfl
@[simp] theorem setClamp_free (c : ClampSt) (s : State) : (setClamp c s).free =
    s.free := by unfold setClamp; dsimp only; (repeat' split) <;> rfl
@[simp] theorem setClamp_pending (c : ClampSt) (s : State) : (setClamp c s).pending =
    s.pending := by unfold setClamp; dsimp only; (repeat' split) <;> rfl

@[simp] theorem motionNote_su (m : Bool) (n : Note) (s : State) : (motionNote m n s).su =
    s.su := by unfold motionNote; (repeat' split) <;> rfl
@[simp] theorem motionNote_ctu (m : Bool) (n : Note) (s : State) : (motionNote m n s).ctu =
    s.ctu := by unfold motionNote; (repeat' split) <;> rfl
@[simp] theorem motionNote_wsc (m : Bool) (n : Note) (s : State) : (motionNote m n s).wsc =
    s.wsc := by unfold motionNote; (repeat' split) <;> rfl
@[simp] theorem motionNote_bsq (m : Bool) (n : Note) (s : State) : (motionNote m n s).bsq =
    s.bsq := by unfold motionNote; (repeat' split) <;> rfl
@[simp] theorem motionNote_tmu (m : Bool) (n : Note) (s : State) : (motionNote m n s).tmu =
    s.tmu := by unfold motionNote; (repeat' split) <;> rfl
@[simp] theorem motionNote_rcu (m : Bool) (n : Note) (s : State) : (motionNote m n s).rcu =
    s.rcu := by unfold motionNote; (repeat' split) <;> rfl
@[simp] theorem motionNote_ocu (m : Bool) (n : Note) (s : State) : (motionNote m n s).ocu =
    s.ocu := by unfold motionNote; (repeat' split) <;> rfl
@[simp] theorem motionNote_flash (m : Bool) (n : Note) (s : State) : (motionNote m n s).flash =
    s.flash := by unfold motionNote; (repeat' split) <;> rfl
@[simp] theorem motionNote_free (m : Bool) (n : Note) (s : State) : (motionNote m n s).free =
    s.free := by unfold motionNote; (repeat' split) <;> rfl
@[simp] theorem motionNote_pending (m : Bool) (n : Note) (s : State) : (motionNote m n s).pending =
    s.pending := by unfold motionNote; (repeat' split) <;> rfl

@[simp] theorem putPush_su (p : PusherName) (x : Push) (s : State) : (putPush p x s).su = s.su := rfl
@[simp] theorem putPush_lnk (p : PusherName) (x : Push) (s : State) : (putPush p x s).lnk = s.lnk := rfl
@[simp] theorem putPush_ctu (p : PusherName) (x : Push) (s : State) : (putPush p x s).ctu = s.ctu := rfl
@[simp] theorem putPush_wsc (p : PusherName) (x : Push) (s : State) : (putPush p x s).wsc = s.wsc := rfl
@[simp] theorem putPush_bsq (p : PusherName) (x : Push) (s : State) : (putPush p x s).bsq = s.bsq := rfl
@[simp] theorem putPush_tmu (p : PusherName) (x : Push) (s : State) : (putPush p x s).tmu = s.tmu.setPush p x := rfl
@[simp] theorem putPush_rcu (p : PusherName) (x : Push) (s : State) : (putPush p x s).rcu = s.rcu := rfl
@[simp] theorem putPush_ocu (p : PusherName) (x : Push) (s : State) : (putPush p x s).ocu = s.ocu := rfl
@[simp] theorem putPush_flash (p : PusherName) (x : Push) (s : State) : (putPush p x s).flash = s.flash := rfl
@[simp] theorem putPush_free (p : PusherName) (x : Push) (s : State) : (putPush p x s).free = s.free := rfl
@[simp] theorem putPush_pending (p : PusherName) (x : Push) (s : State) : (putPush p x s).pending = s.pending := rfl

@[simp] theorem report_su (p : PusherName) (n : Note) (s : State) : (report p n s).su = s.su := rfl
@[simp] theorem report_lnk (p : PusherName) (n : Note) (s : State) : (report p n s).lnk = s.lnk.request .tmu n := rfl
@[simp] theorem report_ctu (p : PusherName) (n : Note) (s : State) : (report p n s).ctu = s.ctu := rfl
@[simp] theorem report_wsc (p : PusherName) (n : Note) (s : State) : (report p n s).wsc = s.wsc := rfl
@[simp] theorem report_bsq (p : PusherName) (n : Note) (s : State) : (report p n s).bsq = s.bsq := rfl
@[simp] theorem report_tmu (p : PusherName) (n : Note) (s : State) : (report p n s).tmu =
    s.tmu.setPush p { s.tmu.push p with st := .reporting n } := rfl
@[simp] theorem report_rcu (p : PusherName) (n : Note) (s : State) : (report p n s).rcu = s.rcu := rfl
@[simp] theorem report_ocu (p : PusherName) (n : Note) (s : State) : (report p n s).ocu = s.ocu := rfl
@[simp] theorem report_flash (p : PusherName) (n : Note) (s : State) : (report p n s).flash = s.flash := rfl
@[simp] theorem report_free (p : PusherName) (n : Note) (s : State) : (report p n s).free = s.free := rfl
@[simp] theorem report_pending (p : PusherName) (n : Note) (s : State) : (report p n s).pending = s.pending := rfl

@[simp] theorem putElev_su (m : MagName) (e : Elev) (s : State) : (putElev m e s).su =
    s.su := by unfold putElev; dsimp only; (repeat' split) <;> rfl
@[simp] theorem putElev_lnk (m : MagName) (e : Elev) (s : State) : (putElev m e s).lnk =
    s.lnk := by unfold putElev; dsimp only; (repeat' split) <;> rfl
@[simp] theorem putElev_ctu (m : MagName) (e : Elev) (s : State) : (putElev m e s).ctu =
    s.ctu := by unfold putElev; dsimp only; (repeat' split) <;> rfl
@[simp] theorem putElev_wsc (m : MagName) (e : Elev) (s : State) : (putElev m e s).wsc =
    s.wsc := by unfold putElev; dsimp only; (repeat' split) <;> rfl
@[simp] theorem putElev_bsq (m : MagName) (e : Elev) (s : State) : (putElev m e s).bsq =
    s.bsq := by unfold putElev; dsimp only; (repeat' split) <;> rfl
@[simp] theorem putElev_tmu (m : MagName) (e : Elev) (s : State) : (putElev m e s).tmu =
    s.tmu.setElev m e := by unfold putElev; dsimp only; (repeat' split) <;> rfl
@[simp] theorem putElev_rcu (m : MagName) (e : Elev) (s : State) : (putElev m e s).rcu =
    s.rcu := by unfold putElev; dsimp only; (repeat' split) <;> rfl
@[simp] theorem putElev_flash (m : MagName) (e : Elev) (s : State) : (putElev m e s).flash =
    s.flash := by unfold putElev; dsimp only; (repeat' split) <;> rfl
@[simp] theorem putElev_free (m : MagName) (e : Elev) (s : State) : (putElev m e s).free =
    s.free := by unfold putElev; dsimp only; (repeat' split) <;> rfl
@[simp] theorem putElev_pending (m : MagName) (e : Elev) (s : State) : (putElev m e s).pending =
    s.pending := by unfold putElev; dsimp only; (repeat' split) <;> rfl

@[simp] theorem restElev_su (m : MagName) (s : State) : (restElev m s).su = s.su := putElev_su _ _ _
@[simp] theorem restElev_ctu (m : MagName) (s : State) : (restElev m s).ctu = s.ctu := putElev_ctu _ _ _
@[simp] theorem restElev_wsc (m : MagName) (s : State) : (restElev m s).wsc = s.wsc := putElev_wsc _ _ _
@[simp] theorem restElev_bsq (m : MagName) (s : State) : (restElev m s).bsq = s.bsq := putElev_bsq _ _ _
@[simp] theorem restElev_rcu (m : MagName) (s : State) : (restElev m s).rcu = s.rcu := putElev_rcu _ _ _
@[simp] theorem restElev_flash (m : MagName) (s : State) : (restElev m s).flash = s.flash := putElev_flash _ _ _
@[simp] theorem restElev_free (m : MagName) (s : State) : (restElev m s).free = s.free := putElev_free _ _ _
@[simp] theorem restElev_pending (m : MagName) (s : State) : (restElev m s).pending = s.pending := putElev_pending _ _ _
@[simp] theorem restElev_tmu (m : MagName) (s : State) : (restElev m s).tmu = s.tmu.setElev m (s.tmu.elev m).rest := putElev_tmu _ _ _

@[simp] theorem restElevs_su (s : State) : (restElevs s).su = s.su := by simp [restElevs]
@[simp] theorem restElevs_ctu (s : State) : (restElevs s).ctu = s.ctu := by simp [restElevs]
@[simp] theorem restElevs_wsc (s : State) : (restElevs s).wsc = s.wsc := by simp [restElevs]
@[simp] theorem restElevs_bsq (s : State) : (restElevs s).bsq = s.bsq := by simp [restElevs]
@[simp] theorem restElevs_rcu (s : State) : (restElevs s).rcu = s.rcu := by simp [restElevs]
@[simp] theorem restElevs_flash (s : State) : (restElevs s).flash = s.flash := by simp [restElevs]
@[simp] theorem restElevs_free (s : State) : (restElevs s).free = s.free := by simp [restElevs]
@[simp] theorem restElevs_pending (s : State) : (restElevs s).pending = s.pending := by simp [restElevs]
@[simp] theorem restElevs_tmu (s : State) : (restElevs s).tmu =
    { s.tmu with elInput := s.tmu.elInput.rest, elGood := s.tmu.elGood.rest, elReject := s.tmu.elReject.rest } := by
  simp [restElevs, Tmu.setElev, Tmu.elev]

@[simp] theorem giveUp_su (s : State) : (giveUp s).su = s.su := rfl
@[simp] theorem giveUp_lnk (s : State) : (giveUp s).lnk = s.lnk := rfl
@[simp] theorem giveUp_ctu (s : State) : (giveUp s).ctu = s.ctu := rfl
@[simp] theorem giveUp_wsc (s : State) : (giveUp s).wsc = s.wsc := rfl
@[simp] theorem giveUp_bsq (s : State) : (giveUp s).bsq = s.bsq := rfl
@[simp] theorem giveUp_tmu (s : State) : (giveUp s).tmu =
    { s.tmu.giveUpFeed.giveUpUnload with duty := false, feedMute := true, unloadMute := true } := rfl
@[simp] theorem giveUp_rcu (s : State) : (giveUp s).rcu = s.rcu := rfl
@[simp] theorem giveUp_ocu (s : State) : (giveUp s).ocu = s.ocu := rfl
@[simp] theorem giveUp_flash (s : State) : (giveUp s).flash = s.flash := rfl
@[simp] theorem giveUp_free (s : State) : (giveUp s).free = s.free := rfl
@[simp] theorem giveUp_pending (s : State) : (giveUp s).pending = s.pending := rfl

@[simp] theorem stopWork_su (s : State) : (stopWork s).su = s.su := rfl
@[simp] theorem stopWork_lnk (s : State) : (stopWork s).lnk = s.lnk := rfl
@[simp] theorem stopWork_ctu (s : State) : (stopWork s).ctu = s.ctu := rfl
@[simp] theorem stopWork_wsc (s : State) : (stopWork s).wsc = s.wsc := rfl
@[simp] theorem stopWork_tmu (s : State) : (stopWork s).tmu = s.tmu := rfl
@[simp] theorem stopWork_rcu (s : State) : (stopWork s).rcu = s.rcu := rfl
@[simp] theorem stopWork_ocu (s : State) : (stopWork s).ocu = s.ocu := rfl
@[simp] theorem stopWork_flash (s : State) : (stopWork s).flash = s.flash := rfl
@[simp] theorem stopWork_free (s : State) : (stopWork s).free = s.free := rfl
@[simp] theorem stopWork_pending (s : State) : (stopWork s).pending = s.pending := rfl

@[simp] theorem clearStaging_su (s : State) : (clearStaging s).su = { s.su with staging := [], stagedId := 0 } := rfl
@[simp] theorem clearStaging_lnk (s : State) : (clearStaging s).lnk = s.lnk := rfl
@[simp] theorem clearStaging_ctu (s : State) : (clearStaging s).ctu = s.ctu := rfl
@[simp] theorem clearStaging_wsc (s : State) : (clearStaging s).wsc = s.wsc := rfl
@[simp] theorem clearStaging_bsq (s : State) : (clearStaging s).bsq = s.bsq := rfl
@[simp] theorem clearStaging_tmu (s : State) : (clearStaging s).tmu = s.tmu := rfl
@[simp] theorem clearStaging_rcu (s : State) : (clearStaging s).rcu = s.rcu := rfl
@[simp] theorem clearStaging_ocu (s : State) : (clearStaging s).ocu = s.ocu := rfl
@[simp] theorem clearStaging_flash (s : State) : (clearStaging s).flash = s.flash := rfl
@[simp] theorem clearStaging_free (s : State) : (clearStaging s).free = s.free := rfl
@[simp] theorem clearStaging_pending (s : State) : (clearStaging s).pending = s.pending := rfl

@[simp] theorem stripGone_su (i : Nat) (s : State) : (stripGone i s).su = s.su := rfl
@[simp] theorem stripGone_lnk (i : Nat) (s : State) : (stripGone i s).lnk = s.lnk := rfl
@[simp] theorem stripGone_ctu (i : Nat) (s : State) : (stripGone i s).ctu = s.ctu := rfl
@[simp] theorem stripGone_wsc (i : Nat) (s : State) : (stripGone i s).wsc = s.wsc := rfl
@[simp] theorem stripGone_bsq (i : Nat) (s : State) : (stripGone i s).bsq = s.bsq := rfl
@[simp] theorem stripGone_tmu (i : Nat) (s : State) : (stripGone i s).tmu = s.tmu := rfl
@[simp] theorem stripGone_rcu (i : Nat) (s : State) : (stripGone i s).rcu = s.rcu.stripLeft i := rfl
@[simp] theorem stripGone_ocu (i : Nat) (s : State) : (stripGone i s).ocu = s.ocu := rfl
@[simp] theorem stripGone_flash (i : Nat) (s : State) : (stripGone i s).flash = s.flash := rfl
@[simp] theorem stripGone_free (i : Nat) (s : State) : (stripGone i s).free = s.free := rfl
@[simp] theorem stripGone_pending (i : Nat) (s : State) : (stripGone i s).pending = s.pending := rfl

@[simp] theorem idleLine_su (s : State) : (idleLine s).su = s.su := rfl
@[simp] theorem idleLine_lnk (s : State) : (idleLine s).lnk = { s.lnk with line := .idle } := rfl
@[simp] theorem idleLine_ctu (s : State) : (idleLine s).ctu = s.ctu := rfl
@[simp] theorem idleLine_wsc (s : State) : (idleLine s).wsc = s.wsc := rfl
@[simp] theorem idleLine_bsq (s : State) : (idleLine s).bsq = s.bsq := rfl
@[simp] theorem idleLine_tmu (s : State) : (idleLine s).tmu = s.tmu := rfl
@[simp] theorem idleLine_rcu (s : State) : (idleLine s).rcu = s.rcu := rfl
@[simp] theorem idleLine_ocu (s : State) : (idleLine s).ocu = s.ocu := rfl
@[simp] theorem idleLine_flash (s : State) : (idleLine s).flash = s.flash := rfl
@[simp] theorem idleLine_free (s : State) : (idleLine s).free = s.free := rfl
@[simp] theorem idleLine_pending (s : State) : (idleLine s).pending = s.pending := rfl

@[simp] theorem rowSent_su (s : State) : (rowSent s).su = s.su := rfl
@[simp] theorem rowSent_lnk (s : State) : (rowSent s).lnk = s.lnk := rfl
@[simp] theorem rowSent_ctu (s : State) : (rowSent s).ctu = s.ctu := rfl
@[simp] theorem rowSent_wsc (s : State) : (rowSent s).wsc = s.wsc := rfl
@[simp] theorem rowSent_bsq (s : State) : (rowSent s).bsq = s.bsq := rfl
@[simp] theorem rowSent_tmu (s : State) : (rowSent s).tmu = s.tmu := rfl
@[simp] theorem rowSent_rcu (s : State) : (rowSent s).rcu = s.rcu := rfl
@[simp] theorem rowSent_ocu (s : State) : (rowSent s).ocu = { s.ocu with portRow := none } := rfl
@[simp] theorem rowSent_flash (s : State) : (rowSent s).flash = s.flash := rfl
@[simp] theorem rowSent_free (s : State) : (rowSent s).free = s.free := rfl
@[simp] theorem rowSent_pending (s : State) : (rowSent s).pending = s.pending := rfl

@[simp] theorem viewUp_su (s : State) : (viewUp s).su = s.su := rfl
@[simp] theorem viewUp_lnk (s : State) : (viewUp s).lnk = s.lnk := rfl
@[simp] theorem viewUp_ctu (s : State) : (viewUp s).ctu = s.ctu := rfl
@[simp] theorem viewUp_wsc (s : State) : (viewUp s).wsc = s.wsc := rfl
@[simp] theorem viewUp_bsq (s : State) : (viewUp s).bsq = s.bsq := rfl
@[simp] theorem viewUp_tmu (s : State) : (viewUp s).tmu = s.tmu := rfl
@[simp] theorem viewUp_rcu (s : State) : (viewUp s).rcu = s.rcu := rfl
@[simp] theorem viewUp_ocu (s : State) : (viewUp s).ocu = { s.ocu with viewTop := s.ocu.viewTop - 1 } := rfl
@[simp] theorem viewUp_flash (s : State) : (viewUp s).flash = s.flash := rfl
@[simp] theorem viewUp_free (s : State) : (viewUp s).free = s.free := rfl
@[simp] theorem viewUp_pending (s : State) : (viewUp s).pending = s.pending := rfl

@[simp] theorem viewDown_su (s : State) : (viewDown s).su = s.su := rfl
@[simp] theorem viewDown_lnk (s : State) : (viewDown s).lnk = s.lnk := rfl
@[simp] theorem viewDown_ctu (s : State) : (viewDown s).ctu = s.ctu := rfl
@[simp] theorem viewDown_wsc (s : State) : (viewDown s).wsc = s.wsc := rfl
@[simp] theorem viewDown_bsq (s : State) : (viewDown s).bsq = s.bsq := rfl
@[simp] theorem viewDown_tmu (s : State) : (viewDown s).tmu = s.tmu := rfl
@[simp] theorem viewDown_rcu (s : State) : (viewDown s).rcu = s.rcu := rfl
@[simp] theorem viewDown_ocu (s : State) : (viewDown s).ocu =
    { s.ocu with viewTop := if s.ocu.viewTop < 24 then s.ocu.viewTop + 1 else s.ocu.viewTop } := rfl
@[simp] theorem viewDown_flash (s : State) : (viewDown s).flash = s.flash := rfl
@[simp] theorem viewDown_free (s : State) : (viewDown s).free = s.free := rfl
@[simp] theorem viewDown_pending (s : State) : (viewDown s).pending = s.pending := rfl

@[simp] theorem takeByte_su (f : Byte → Bool) (g : Byte → Ocu → Ocu) (s : State) : (takeByte f g s).su = s.su := rfl
@[simp] theorem takeByte_lnk (f : Byte → Bool) (g : Byte → Ocu → Ocu) (s : State) : (takeByte f g s).lnk = s.lnk := rfl
@[simp] theorem takeByte_ctu (f : Byte → Bool) (g : Byte → Ocu → Ocu) (s : State) : (takeByte f g s).ctu = s.ctu := rfl
@[simp] theorem takeByte_wsc (f : Byte → Bool) (g : Byte → Ocu → Ocu) (s : State) : (takeByte f g s).wsc = s.wsc := rfl
@[simp] theorem takeByte_bsq (f : Byte → Bool) (g : Byte → Ocu → Ocu) (s : State) : (takeByte f g s).bsq = s.bsq := rfl
@[simp] theorem takeByte_tmu (f : Byte → Bool) (g : Byte → Ocu → Ocu) (s : State) : (takeByte f g s).tmu = s.tmu := rfl
@[simp] theorem takeByte_rcu (f : Byte → Bool) (g : Byte → Ocu → Ocu) (s : State) : (takeByte f g s).rcu = s.rcu := rfl
@[simp] theorem takeByte_ocu (f : Byte → Bool) (g : Byte → Ocu → Ocu) (s : State) : (takeByte f g s).ocu =
    s.ocu.interpret f g := rfl
@[simp] theorem takeByte_flash (f : Byte → Bool) (g : Byte → Ocu → Ocu) (s : State) : (takeByte f g s).flash =
    s.flash := rfl
@[simp] theorem takeByte_free (f : Byte → Bool) (g : Byte → Ocu → Ocu) (s : State) : (takeByte f g s).free = s.free := rfl
@[simp] theorem takeByte_pending (f : Byte → Bool) (g : Byte → Ocu → Ocu) (s : State) : (takeByte f g s).pending =
    s.pending := rfl

@[simp] theorem redraw_su (s : State) : (redraw s).su = s.su := rfl
@[simp] theorem redraw_lnk (s : State) : (redraw s).lnk = s.lnk := rfl
@[simp] theorem redraw_ctu (s : State) : (redraw s).ctu = s.ctu := rfl
@[simp] theorem redraw_wsc (s : State) : (redraw s).wsc = s.wsc := rfl
@[simp] theorem redraw_bsq (s : State) : (redraw s).bsq = s.bsq := rfl
@[simp] theorem redraw_tmu (s : State) : (redraw s).tmu = s.tmu := rfl
@[simp] theorem redraw_rcu (s : State) : (redraw s).rcu = s.rcu := rfl
@[simp] theorem redraw_flash (s : State) : (redraw s).flash = s.flash := rfl
@[simp] theorem redraw_free (s : State) : (redraw s).free = s.free := rfl
@[simp] theorem redraw_pending (s : State) : (redraw s).pending = s.pending := rfl

@[simp] theorem finish_su (s : State) : (finish s).su = s.su := rfl
@[simp] theorem finish_lnk (s : State) : (finish s).lnk = s.lnk := rfl
@[simp] theorem finish_ctu (s : State) : (finish s).ctu = s.ctu := rfl
@[simp] theorem finish_wsc (s : State) : (finish s).wsc = s.wsc := rfl
@[simp] theorem finish_bsq (s : State) : (finish s).bsq = s.bsq := rfl
@[simp] theorem finish_tmu (s : State) : (finish s).tmu = s.tmu := rfl
@[simp] theorem finish_rcu (s : State) : (finish s).rcu = s.rcu := rfl
@[simp] theorem finish_flash (s : State) : (finish s).flash = s.flash := rfl
@[simp] theorem finish_free (s : State) : (finish s).free = s.free + 1 := rfl
@[simp] theorem finish_pending (s : State) : (finish s).pending = s.pending := rfl

@[simp] theorem poweredOn_su (x : Straps) (lv : Levels) (m : List Host.Cell) (n : Nat) (q : List Instr) :
    (State.poweredOn x lv m n q).su = .reset x := rfl
@[simp] theorem poweredOn_lnk (x : Straps) (lv : Levels) (m : List Host.Cell) (n : Nat) (q : List Instr) :
    (State.poweredOn x lv m n q).lnk = .reset := rfl
@[simp] theorem poweredOn_ctu (x : Straps) (lv : Levels) (m : List Host.Cell) (n : Nat) (q : List Instr) :
    (State.poweredOn x lv m n q).ctu = .reset := rfl
@[simp] theorem poweredOn_wsc (x : Straps) (lv : Levels) (m : List Host.Cell) (n : Nat) (q : List Instr) :
    (State.poweredOn x lv m n q).wsc = .reset := rfl
@[simp] theorem poweredOn_bsq (x : Straps) (lv : Levels) (m : List Host.Cell) (n : Nat) (q : List Instr) :
    (State.poweredOn x lv m n q).bsq = .reset := rfl
@[simp] theorem poweredOn_tmu (x : Straps) (lv : Levels) (m : List Host.Cell) (n : Nat) (q : List Instr) :
    (State.poweredOn x lv m n q).tmu = .reset lv := rfl
@[simp] theorem poweredOn_rcu (x : Straps) (lv : Levels) (m : List Host.Cell) (n : Nat) (q : List Instr) :
    (State.poweredOn x lv m n q).rcu = .reset := rfl
@[simp] theorem poweredOn_ocu (x : Straps) (lv : Levels) (m : List Host.Cell) (n : Nat) (q : List Instr) :
    (State.poweredOn x lv m n q).ocu = .reset := rfl
@[simp] theorem poweredOn_flash (x : Straps) (lv : Levels) (m : List Host.Cell) (n : Nat) (q : List Instr) :
    (State.poweredOn x lv m n q).flash = m := rfl
@[simp] theorem poweredOn_free (x : Straps) (lv : Levels) (m : List Host.Cell) (n : Nat) (q : List Instr) :
    (State.poweredOn x lv m n q).free = n := rfl
@[simp] theorem poweredOn_pending (x : Straps) (lv : Levels) (m : List Host.Cell) (n : Nat) (q : List Instr) :
    (State.poweredOn x lv m n q).pending = q := rfl

end Sys2Proof.Machine
end

