-- ==== Sys2Proof/Laws/Effects.lean ====
section
/-! SUPPORT. What single shared operations do, said once: the elevator's turn to a target, the elevators that a restart
brings to rest, the vote record at a correction, the claims lost in RESYNC, notes taken out of the queue, the end of the
skips, a note with an undefined code in a copier, the readable end of a block, the start of a flash operation, the layout of
rows whose columns are free. -/

namespace Sys2Proof.Machine

/-! ## The elevator's turn (R129) -/

/-- A turn to a slot makes it the target. -/
@[simp] theorem Elev.turn_target (i : Nat) (e : Elev) : (e.turn (some i)).target = some i := by
  unfold Elev.turn; split <;> (repeat' split) <;> simp_all

/-- With no slot to seek the elevator stands at its current slot. -/
@[simp] theorem Elev.turn_none (e : Elev) :
    e.turn none = { e with st := .atSlot, target := none, waiting := false, steps := 0 } := rfl

/-- An elevator that a turn leaves at a slot stands at the slot it was turned to. -/
theorem Elev.turn_atSlot (i : Nat) (e : Elev) (h : (e.turn (some i)).st = .atSlot) : (e.turn (some i)).cur = some i := by
  unfold Elev.turn at h ⊢
  split at h <;> (repeat' split at h) <;> simp_all

/-! ## Elevators brought to rest by a restart (R38, R128) -/

/-- An elevator brought to rest is not FAULT. -/
theorem Elev.rest_st (e : Elev) : e.rest.st ≠ .fault := by
  unfold Elev.rest; split <;> simp_all

/-- An elevator that is not FAULT is left as it is. -/
theorem Elev.rest_of_ne (e : Elev) (h : e.st ≠ .fault) : e.rest = e := if_neg h

/-- No elevator of the station stays FAULT. -/
theorem restElevs_elevFault (s : State) : (restElevs s).tmu.elevFault = false := by
  simp [Tmu.elevFault, Elev.rest_st]

/-- With no elevator FAULT nothing changes, the alarm list neither. -/
theorem restElevs_of_fine (s : State) (h : s.tmu.elevFault = false) : restElevs s = s := by
  simp only [Tmu.elevFault, Bool.or_eq_false_iff, beq_eq_false_iff_ne] at h
  obtain ⟨⟨h1, h2⟩, h3⟩ := h
  have same : ∀ m, (s.tmu.elev m).st ≠ .fault → restElev m s = s := by
    intro m hm
    have e : s.tmu.setElev m (s.tmu.elev m) = s.tmu := by cases m <;> rfl
    simp [restElev, putElev, Elev.rest_of_ne _ hm, e, hm]
  rw [restElevs, same .input h1, same .good h2, same .reject h3]

/-- When the self-check of a restart begins no elevator is FAULT, so that ELEVATOR_FAULT does not stand (R38, R128). -/
theorem beginRestartCheck_elevFault (s : State) : (beginRestartCheck s).tmu.elevFault = false := by
  unfold beginRestartCheck; exact restElevs_elevFault s

/-- A RESTART taken leaves no elevator FAULT. -/
theorem restartTmu_elevFault (s : State) : (restartTmu s).tmu.elevFault = false := by
  simp [restartTmu, Tmu.elevFault, Elev.rest_st]

/-! ## The vote record at a correction (R77) -/

@[simp] theorem dropVoteRec_false (s : State) : dropVoteRec false s = s := rfl
@[simp] theorem dropVoteRec_true (s : State) : (dropVoteRec true s).wsc.voteRec = none := rfl
@[simp] theorem dropVoteRec_lnk (b : Bool) (s : State) : (dropVoteRec b s).lnk = s.lnk := by cases b <;> rfl

/-! ## Claims lost in RESYNC (R104) -/

/-- The work list after a loss: without the lost task's entries, or with the head kept and those behind it gone. -/
theorem Bsq.lose_work (w u g : Nat) (b : Bsq) : (b.lose w u g).work = b.work.filter (fun e => !e.isTask w u g) ∨
    ∃ e r, b.work = e :: r ∧ (b.lose w u g).work =
      (if e.isTask w u g then { e with mark := .drop } else e) :: r.filter fun e => !e.isTask w u g := by
  unfold Bsq.lose
  split
  · next e r _ hw _ =>
    split
    · exact .inl rfl
    · exact .inr ⟨e, r, hw, rfl⟩
  · exact .inl rfl

/-- An entry of the lost task that is left is marked DROP. -/
theorem Bsq.lose_marks (w u g : Nat) (b : Bsq) (e : WorkEntry) (h : e ∈ (b.lose w u g).work) (he : e.isTask w u g = true) :
    e.mark = .drop := by
  obtain h' | ⟨a, r, -, h'⟩ := b.lose_work w u g <;> rw [h'] at h
  · simp [he] at h
  · by_cases ha : a.isTask w u g <;> simp_all

/-- Every entry left stood there before, with its mark or marked DROP. -/
theorem Bsq.lose_from (w u g : Nat) (b : Bsq) (e : WorkEntry) (h : e ∈ (b.lose w u g).work) :
    ∃ a ∈ b.work, e = a ∨ e = { a with mark := .drop } := by
  obtain h' | ⟨a, r, hw, h'⟩ := b.lose_work w u g <;> rw [h'] at h
  · exact ⟨e, (List.mem_filter.1 h).1, .inl rfl⟩
  · rw [hw]
    rcases List.mem_cons.1 h with rfl | h
    · exact ⟨a, .head _, by split <;> simp⟩
    · exact ⟨e, .tail _ (List.mem_filter.1 h).1, .inl rfl⟩

/-- Behind the head no entry of the lost task is left, and none is there that was not. -/
theorem Bsq.lose_behind (w u g : Nat) (b : Bsq) (e : WorkEntry) (h : e ∈ (b.lose w u g).work.drop 1) :
    e.isTask w u g = false ∧ e ∈ b.work.drop 1 := by
  obtain h' | ⟨a, r, hw, h'⟩ := b.lose_work w u g <;> rw [h'] at h
  · refine ⟨by simpa using (List.mem_filter.1 (List.mem_of_mem_drop h)).2, ?_⟩
    cases hw : b.work with
    | nil => simp [hw] at h
    | cons a r =>
      rw [hw, List.filter_cons] at h
      split at h
      · exact (List.mem_filter.1 h).1
      · exact (List.mem_filter.1 (List.mem_of_mem_drop h)).1
  · simpa [hw, and_comm] using h

/-- Of several claims lost, as a half of the own window shows them (R58), the entries left are marked DROP and none of them
stands behind the head. -/
theorem loseClaims_work (l : List OwnClaim) (s : State) :
    let t := l.foldl (fun s x => loseClaim x.win x.unit x.group s) s
    (∀ e ∈ t.bsq.work.drop 1, e ∈ s.bsq.work.drop 1 ∧ ∀ x ∈ l, e.isTask x.win x.unit x.group = false) ∧
    ∀ e ∈ t.bsq.work, (∃ a ∈ s.bsq.work, e = a ∨ e = { a with mark := .drop }) ∧
      ∀ x ∈ l, e.isTask x.win x.unit x.group = true → e.mark = .drop := by
  induction l generalizing s with
  | nil => exact ⟨fun e h => ⟨h, by simp⟩, fun e h => ⟨⟨e, h, .inl rfl⟩, by simp⟩⟩
  | cons y l ih =>
    obtain ⟨behind, marks⟩ := ih (loseClaim y.win y.unit y.group s)
    refine ⟨fun e h => ?_, fun e h => ?_⟩
    · obtain ⟨h1, h2⟩ := behind e h
      obtain ⟨h3, h4⟩ := Bsq.lose_behind _ _ _ _ e h1
      exact ⟨h4, List.forall_mem_cons.2 ⟨h3, h2⟩⟩
    · obtain ⟨⟨a, ha, hea⟩, h2⟩ := marks e h
      obtain ⟨c, hc, hac⟩ := Bsq.lose_from _ _ _ _ a ha
      refine ⟨⟨c, hc, by rcases hea with rfl | rfl <;> rcases hac with rfl | rfl <;> simp⟩, List.forall_mem_cons.2 ⟨?_, h2⟩⟩
      rcases hea with rfl | rfl
      · exact Bsq.lose_marks _ _ _ _ e ha
      · exact fun _ => rfl

/-! ## Notes taken out; the end of the skips (R71); a note with an undefined code (R179) -/

/-- What a test takes out is gone from the queue and from the waiting requests, but for notes that are in flight. -/
theorem Lnk.takeOut_flying (f : Note → Bool) (l : Lnk) (q : QNote) (h : q ∈ (l.takeOut f).queue ++ (l.takeOut f).waiting)
    (hf : f q.note = true) : q.inFlight = true := by
  simp only [Lnk.takeOut, Lnk.drain, List.append_assoc, List.take_append_drop, List.mem_append, List.mem_filter] at h
  rcases h with ⟨_, h⟩ | ⟨_, h⟩ <;> simp_all

/-- An INDEX_START leaves no SKIP that is not in flight. -/
theorem dropSkips_flying (s : State) (q : QNote) (h : q ∈ (dropSkips s).lnk.queue ++ (dropSkips s).lnk.waiting)
    (hq : q.note.isSkip = true) : q.inFlight = true :=
  Lnk.takeOut_flying _ _ q h (by simp [hq, Wsc.skipSent])

/-- With no SKIP queued or waiting a settled queue is left as it is. -/
theorem dropStray_none (s : State) (h : s.lnk.hasNote Note.isSkip = false) (hd : s.lnk.drain = s.lnk) : dropStray s = s := by
  simp only [Lnk.hasNote, Bool.or_eq_false_iff, List.any_eq_false, Bool.not_eq_true] at h
  have e : s.lnk.takeOut (fun n => n.isSkip && !s.wsc.skipSent n) = s.lnk.drain := by
    unfold Lnk.takeOut
    rw [List.filter_eq_self.2 fun q hq => by simp [h.1 q hq], List.filter_eq_self.2 fun q hq => by simp [h.2 q hq]]
  simp [dropStray, e, hd]

/-- A copier refuses a note with an undefined code, whatever it has copied. -/
theorem copierNote_undefined (p : Plan) (c : NoteCtx) (t : Table) (n : Note) (s : State) (h : n.codesDefined = false) :
    copierNote p c t n s = noteRefused c n s := by
  simp [copierNote, h]

/-! ## The end of a block's numbers (R149, R153) -/

/-- An end once kept stands. -/
theorem Block.bound_kept (next n : Nat) (b : Block) (h : b.lim = some n) : Block.bound next b = b := by
  simp [Block.bound, h]

/-- A block that holds no records gets no end. -/
theorem Block.bound_none (next : Nat) (b : Block) (h : b.seq = none) : Block.bound next b = b := by
  simp [Block.bound, h]

/-! ## The start of a flash operation (R148) -/

/-- A busy port starts nothing. -/
theorem Rcu.startOp_busy (resting held : Bool) (r : Rcu) (h : r.port.isSome) : r.startOp resting held = r := by
  simp [Rcu.startOp, h]

/-- A store in MOUNTING or FAULT starts nothing. -/
theorem Rcu.startOp_shut (resting held : Bool) (r : Rcu) (h : r.store = .mounting ∨ r.store = .fault) :
    r.startOp resting held = r := by
  rcases h with h | h <;> simp [Rcu.startOp, h]

/-! ## Rows whose columns are free (R166, R169) -/

/-- The laid-out fields fill no more than the columns they were given. -/
theorem layFields_length (gap : Nat → Nat) (l : List (List Byte)) (k room : Nat) :
    (layFields gap k room l).length ≤ room + fieldChars l := by
  induction l generalizing k room with
  | nil => simp [layFields, fieldChars]
  | cons a r ih =>
    have := ih (k + 1) (room - min room (gap k))
    simp only [layFields, fieldChars, List.length_append, List.length_replicate, List.map_cons, List.sum_cons] at this ⊢
    omega

/-- Fields that fit a row fill no more than a row. -/
theorem freeRow_length (gap : Nat → Nat → Nat) (l : List (List Byte)) (h : fieldChars l ≤ Config.screenCols) :
    (freeRow gap l).length ≤ Config.screenCols := by
  have := layFields_length (fun k => gap k (fieldChars l)) l 0 (Config.screenCols - fieldChars l)
  unfold freeRow
  omega

/-- A number of at most `n` digits has at most `n`. -/
theorem digitsRev_length (n x : Nat) : (digitsRev n x).length ≤ n := by
  induction n generalizing x with
  | zero => simp [digitsRev]
  | succ n ih =>
    have := ih (x / 10)
    unfold digitsRev
    split <;> simp_all

/-- What the alarm area shows of an entry fits a row (R169). -/
theorem alarmFields_fit (e : AlarmEntry) : fieldChars (alarmFields e) ≤ Config.screenCols := by
  have h1 := digitsRev_length 5 e.index
  have h2 := digitsRev_length 5 e.repeats
  have h3 : e.code.text.length ≤ 17 := by cases e.code <;> decide
  have h4 : e.st.text.length ≤ 15 := by cases e.st <;> decide
  simp only [fieldChars, alarmFields, decimal, List.map_cons, List.map_nil, List.sum_cons, List.sum_nil,
    List.length_reverse, Config.screenCols]
  omega

end Sys2Proof.Machine
end

