-- ==== Sys2Proof/Laws/Quiet.lean ====
section
/-! SUPPORT. How a proof passes over the end of a command that leaves the sequencer nothing to do: `conclude` is then `finish`,
so that the next state is the command's own effect with the screen redrawn. -/

set_option linter.all false

namespace Sys2Proof.Machine

/-- What a selection looks at is the same: the seat, the table, the scheduler, the sequencer, the record unit. -/
theorem mayPark_congr (s s' : State) (h1 : s'.su = s.su) (h2 : s'.lnk.st = s.lnk.st) (h3 : s'.ctu = s.ctu)
    (h4 : s'.wsc = s.wsc) (h5 : s'.bsq = s.bsq) (h6 : s'.rcu = s.rcu) : s'.mayPark = s.mayPark := by
  have hT : s'.table = s.table := by unfold State.table; rw [h2, h3]
  have hS : s'.seating = s.seating := by unfold State.seating; rw [h1]
  have hstn : s'.stn = s.stn := by unfold State.stn; rw [h1]
  have hQ : ∀ t, s'.queuedTable t = s.queuedTable t := by intro t; unfold State.queuedTable; rw [h4, hstn]
  have hK : ∀ p seat t u, s'.taskOf p seat t u = s.taskOf p seat t u := by
    intro p seat t u; unfold State.taskOf; rw [h4, h6, hstn]
  have hM : s'.mayTake false = s.mayTake false := by unfold State.mayTake; rw [h2, h4, h5]
  unfold State.mayPark State.firstTask
  rw [h4, hT, hS, hM]
  simp only [hQ, hK]

/-- A request of another kind does not make the sequencer wait, nor end its waiting. -/
theorem pullWaits_request (l : Lnk) (hd : l.drain = l) (p : Producer) (n : Note)
    (hn : p ≠ .wsc ∨ ∀ r, n ≠ .pullResult r) : (l.request p n).pullWaits = l.pullWaits := by
  have hfull : l.waiting = [] ∨ 24 ≤ l.queue.length := by
    by_contra hc
    push Not at hc
    have := congrArg Lnk.waiting hd
    simp only [Lnk.drain, Config.queuePlaces] at this
    have hl := congrArg List.length this
    rw [List.length_drop] at hl
    have : 0 < l.waiting.length := List.length_pos_of_ne_nil hc.1
    omega
  have hno : (p == .wsc && (match (generalizing := false) n with | .pullResult r => r.group != 4 | _ => false)) = false := by
    rcases hn with h | h
    · simp [h]
    · cases n <;> simp at h ⊢
  rcases hfull with h | h
  · simp only [Lnk.request, Lnk.drain, Lnk.pullWaits, h, List.nil_append, Config.queuePlaces]
    cases hk : 24 - l.queue.length with
    | zero => simp only [List.drop_zero, List.any_cons, List.any_nil, Bool.or_false]; exact hno
    | succ k => simp
  · have : 24 - l.queue.length = 0 := by omega
    simp only [Lnk.request, Lnk.drain, Lnk.pullWaits, Config.queuePlaces, this, List.drop_zero, List.any_append,
      List.any_cons, List.any_nil, Bool.or_false]
    exact Eq.trans (congrArg₂ or rfl hno) (Bool.or_false _)

/-- A request keeps what the LNK is. -/
@[simp] theorem request_st (l : Lnk) (p n) : (l.request p n).st = l.st := rfl

/-- The console seen with another elevator state: the magazine alarms stay settled when what they are judged by is the same. -/
theorem judgeMags_congr (s s' : State) (h : judgeMags s = s) (h1 : s'.su = s.su) (h2 : s'.lnk.st = s.lnk.st)
    (h3 : s'.ctu = s.ctu) (h4 : s'.tmu.elInput.st = s.tmu.elInput.st) (h5 : s'.ocu.magIn = s.ocu.magIn)
    (h6 : s'.ocu.magOut = s.ocu.magOut) : judgeMags s' = s' := by
  have hT : s'.table = s.table := by unfold State.table; rw [h2, h3]
  rw [judgeMags_fixed_iff] at h ⊢
  have hF : s'.actsFeed = s.actsFeed := by unfold State.actsFeed; rw [h1, h2]
  have hU : s'.actsUnload = s.actsUnload := by unfold State.actsUnload; rw [h1, h2]
  refine ⟨?_, ?_⟩
  · rw [h5, ← h.1]; unfold State.magInNow; rw [hT, hF, h4, h5]
  · rw [h6, ← h.2]; unfold State.magOutNow; rw [hT, hU]

/-- A command that touches only what neither the sequencer, nor a selection, nor the magazine alarms look at: the track, the
console, the flash, requests to send. -/
theorem conclude_quiet (s s' : State) (h : s.Ready) (h1 : s'.su = s.su) (h2 : s'.lnk.st = s.lnk.st)
    (hp : s'.lnk.pullWaits = s.lnk.pullWaits) (h3 : s'.ctu = s.ctu) (h4 : s'.wsc = s.wsc) (h5 : s'.bsq = s.bsq)
    (h6 : s'.rcu = s.rcu) (h7 : s'.tmu.elInput.st = s.tmu.elInput.st) (h8 : s'.ocu.magIn = s.ocu.magIn)
    (h9 : s'.ocu.magOut = s.ocu.magOut) : conclude false s s' = finish s' := by
  obtain ⟨⟨a1, -, a3, -⟩, a4⟩ := h
  apply conclude_eq_finish
  · exact driveStep_fixed_congr s s' ⟨h5, h1, h2, hp, h4, h3, mayPark_congr s s' h1 h2 h3 h4 h5 h6⟩ a1
  · rw [h1, a4]; decide
  · exact judgeMags_congr s s' a3 h1 h2 h3 h7 h8 h9
  · exact selectionDue_same _ _ h4 (by rw [h5])

/-- The same with the record unit changed, while the sequencer has a command outstanding or does not stand IDLE. -/
theorem conclude_quiet_rcu (s s' : State) (h : s.Ready) (h1 : s'.su = s.su) (h2 : s'.lnk.st = s.lnk.st)
    (hp : s'.lnk.pullWaits = s.lnk.pullWaits) (h3 : s'.ctu = s.ctu) (h4 : s'.wsc = s.wsc) (h5 : s'.bsq = s.bsq)
    (h6 : s'.mayPark = s.mayPark) (h7 : s'.tmu.elInput.st = s.tmu.elInput.st) (h8 : s'.ocu.magIn = s.ocu.magIn)
    (h9 : s'.ocu.magOut = s.ocu.magOut) : conclude false s s' = finish s' := by
  obtain ⟨⟨a1, -, a3, -⟩, a4⟩ := h
  apply conclude_eq_finish
  · exact driveStep_fixed_congr s s' ⟨h5, h1, h2, hp, h4, h3, h6⟩ a1
  · rw [h1, a4]; decide
  · exact judgeMags_congr s s' a3 h1 h2 h3 h7 h8 h9
  · exact selectionDue_same _ _ h4 (by rw [h5])

/-- A command that also moves the sequencer, to a state in which it has nothing to do. -/
theorem conclude_moved (s s' : State) (h : s.Ready) (hd : driveStep s' = s') (h1 : s'.su = s.su)
    (h2 : s'.lnk.st = s.lnk.st) (h3 : s'.ctu = s.ctu) (h4 : s'.wsc = s.wsc)
    (h5 : s'.bsq.st = s.bsq.st ∨ (s'.bsq.st ≠ .running ∧ s'.bsq.st ≠ .idle))
    (h7 : s'.tmu.elInput.st = s.tmu.elInput.st) (h8 : s'.ocu.magIn = s.ocu.magIn)
    (h9 : s'.ocu.magOut = s.ocu.magOut) : conclude false s s' = finish s' := by
  obtain ⟨⟨a1, -, a3, -⟩, a4⟩ := h
  apply conclude_eq_finish _ _ hd
  · rw [h1, a4]; decide
  · exact judgeMags_congr s s' a3 h1 h2 h3 h7 h8 h9
  · rcases h5 with h5 | ⟨h5, h5'⟩
    · exact selectionDue_same _ _ h4 h5
    · have := selectionDue_same s { s' with bsq := { s'.bsq with st := s.bsq.st } } h4 rfl
      unfold selectionDue at this ⊢
      simp only [Bool.or_eq_false_iff] at this ⊢
      refine ⟨⟨this.1.1, ?_⟩, this.2⟩
      simp [h5, h5']

/-- A BSQ that is not RUNNING, or whose list holds a claim, or that is to stop, does not become IDLE of its own accord. -/
theorem idleWhenEmpty_busy (b : Bsq) (h : b.st ≠ .running ∨ b.work ≠ [] ∨ b.stop = true) : b.idleWhenEmpty = b := by
  unfold Bsq.idleWhenEmpty
  rcases h with h | h | h <;> simp [h]

/-- The sequencer has no move while a command is outstanding, but for one that is RUNNING with an empty list. -/
theorem driveStep_out (s : State) (h : s.bsq.out.isSome = true)
    (hb : s.bsq.st ≠ .running ∨ s.bsq.work ≠ [] ∨ s.bsq.stop = true) : driveStep s = s := by
  unfold driveStep; simp [h, idleWhenEmpty_busy _ hb]

/-- The sequencer has no move in HALTED and SPOOL_OUT without a stop request. -/
theorem driveStep_stopped (s : State) (h : s.bsq.st = .halted ∨ s.bsq.st = .spoolOut ∨ s.bsq.st = .paused)
    (hs : s.bsq.stop = false) : driveStep s = s := by
  have hb : s.bsq.idleWhenEmpty = s.bsq := idleWhenEmpty_busy _ (.inl (by rcases h with h | h | h <;> simp [h]))
  unfold driveStep
  rcases h with h | h | h <;> simp [h, hs, hb]

end Sys2Proof.Machine
end

