-- ==== Sys2Proof/Tests/Slice0.lean ====
section
/-! SUPPORT. The model's own tests: ill-formed commands that the check refuses, the CRC and the byte layouts, single commands on
small states, and for every statement with hypotheses a state and operands that meet them. -/

set_option linter.all false

namespace Sys2Proof.Tests

-- One theorem after the other: the threads that would wait for each other need a stack each.
set_option Elab.async false

open Sys2Proof Sys2Proof.Machine

/-! ## Small states -/

/-- A plan of two windows of two units, one group of two traced wires, a bond seat and a pull seat. -/
def plan : Plan where
  id := 7
  windows := 2
  seats := [⟨0, 0, true, false, 0⟩, ⟨1, 1, true, true, 0⟩]
  rows := 1
  cols := 2
  keepOut := 1
  groups := [⟨0, [⟨1, 2, 3, 4, true⟩, ⟨5, 6, 7, 8, true⟩]⟩]
  tests := [1]
  retryLimit := 1
  taktLimit := 10
  headTimeout := 100
  sample := 1
  stopPolicy := false
  slotsInput := 2
  slotsGood := 2
  slotsReject := 2
  stepInterval := 1
  pitch := 10
  minForce := [10, 10, 10, 10]

/-- A unit with its one group in a state, its test in another. -/
def unit (g : GEntry) (t : TState) (k : Option Nat) : UEntry := ⟨.opened, t, k, [g]⟩

def pending : GEntry := ⟨.pending, none, 0⟩

/-- A sampled strip of two units. -/
def strip (a b : UEntry) : Strip := ⟨1, 0, true, false, 0, [a, b]⟩

def fresh : Strip := strip (unit pending .none none) (unit pending .pending none)

/-- A table with one strip in W0. -/
def table (x : Strip) : Table := { freshTable with win := [some x, none, none, none, none, none], loaded := 1 }

/-- In LISTEN after the self-check. -/
def listen : State :=
  { State.reset with su := { State.reset.su with run := .running }, lnk := { State.reset.lnk with quiet := .running } }

/-- A working station with the plan and a table, head commands not yet allowed. -/
def inState (st : StState) (t : Table) : State :=
  { listen with lnk := { listen.lnk with st := st, quiet := .stopped }
                su := { listen.su with held := some plan, mountEnded := true }
                ctu := ⟨some t, List.replicate 14 true, none, 0⟩
                rcu := { listen.rcu with store := .ready } }

def active : State := inState .active (table fresh)

/-- With a key at the head of the key queue. -/
def key (k : Byte) (s : State) : State := { s with ocu := { s.ocu with keyQ := [k] } }

/-- With bytes in the text queue. -/
def text (l : List Byte) (s : State) : State := { s with ocu := { s.ocu with textQ := l } }

def bsq (f : Bsq → Bsq) (s : State) : State := { s with bsq := f s.bsq }
def lnk (f : Lnk → Lnk) (s : State) : State := { s with lnk := f s.lnk }
def tmu (f : Tmu → Tmu) (s : State) : State := { s with tmu := f s.tmu }
def rcu (f : Rcu → Rcu) (s : State) : State := { s with rcu := f s.rcu }
def wsc (f : Wsc → Wsc) (s : State) : State := { s with wsc := f s.wsc }
def ocu (f : Ocu → Ocu) (s : State) : State := { s with ocu := f s.ocu }
def su (f : StartUp → StartUp) (s : State) : State := { s with su := f s.su }

/-- What a state a command leads to satisfies. -/
def leads (a : Answered) (f : State → Prop) : Prop := ∃ t, a = .next t ∧ f t

/-- The idle line heard, all sensors quiet. -/
abbrev lv : Levels := quietLevels


/-- A frame of a station in a state, with the section R4 requires of it. -/
def frame (k : Nat) (st : StState) (d : Half) (ns : List Note) : Frame :=
  ⟨k, 0, 7, st, .bond, HFlags.clear, d, if st = .active then some (k, [0, 0]) else none, ns⟩

/-- A JOINING frame of station k, which shows no table. -/
def joins (k : Nat) (ns : List Note) : Frame := { frame k .joining 0 ns with flags := { HFlags.clear with noTable := true } }

/-- With the slot counter at a slot. -/
def slot (k : Nat) (s : State) : State := lnk (fun l => { l with slot := k }) s

/-! ## Ill-formed commands are refused -/

theorem wf_station : Instr.wf (.powerOn ⟨7, .bond, false, false, false⟩ lv) = true ∧
    Instr.wf (.powerOn ⟨8, .bond, false, false, false⟩ lv) = false := by decide
theorem wf_role : Instr.wf (.powerOn ⟨0, .gateway, false, false, false⟩ lv) = false := by decide
theorem wf_failed_items : Instr.wf (.selfCheckEnd [.linkPath, .linkPath]) = false := by decide
theorem wf_frame_not_empty : Instr.wf (.readableFrameEnd [] lv) = false := by decide
theorem wf_height : Instr.wf (.headCompletion 0 (.done ⟨65535, 255, 65535, 255⟩)) = true ∧
    Instr.wf (.headCompletion 0 (.done ⟨65536, 0, 0, 0⟩)) = false := by decide
theorem wf_deform : Instr.wf (.headCompletion 0 (.done ⟨0, 256, 0, 0⟩)) = false := by decide
theorem wf_energy : Instr.wf (.headCompletion 0 (.done ⟨0, 0, 65536, 0⟩)) = false := by decide
theorem wf_time : Instr.wf (.headCompletion 0 (.done ⟨0, 0, 0, 256⟩)) = false := by decide
theorem wf_force : Instr.wf (.headCompletion 0 (.pulled 65536 .neck)) = false := by decide
theorem wf_mode : Instr.wf (.headCompletion 0 (.pulled 0 .none)) = false := by decide
theorem wf_levels : Instr.wf (.slotSilence { lv with clampOpen := true, clampClosed := true }) = false := by decide
theorem wf_open_sensed : Instr.wf (.clampOpenSensed lv) = false := by decide
theorem wf_closed_sensed : Instr.wf (.clampClosedSensed lv) = false := by decide
theorem wf_home_sensed : Instr.wf (.beamHomeSensed lv) = false := by decide
theorem wf_beam_jam : Instr.wf (.beamJam { lv with beamJam := true }) = true ∧ Instr.wf (.beamJam lv) = false := by decide

/-! ## Bytes -/

theorem test_crc : crc16 [0x31, 0x32, 0x33, 0x34, 0x35, 0x36, 0x37, 0x38, 0x39] = 0x29B1 := by decide +kernel
/-- CLAIM of window 2, unit 17, group 1, and LOAD of slot 5, strip 0x0102 (R179). -/
theorem test_note_bytes : (Note.claim 2 17 1).encode = [0x01, 2, 17, 1] ∧
    (Note.load 5 0x0102).encode = [0x0B, 5, 0x02, 0x01] := by decide
/-- The header of a cold-start frame of station 3 (R178): state JOINING, role BOND, check-passed, plan-wanted, no-table. -/
theorem test_header_bytes : (Frame.content ⟨3, 0, 0, .joining, .bond,
      { HFlags.clear with planWanted := true, checkPassed := true, noTable := true }, 0, none, []⟩) =
    [3, 0, 0, 0, 0, 0x11, 0xC0, 0x01, 0, 0, 0xFF, 0] := by decide
theorem test_frame_read_back : checkFrame (frame 1 .active 5 [.claim 0 1 0]).chars =
    some (frame 1 .active 5 [.claim 0 1 0]) := by decide +kernel
theorem test_frame_one_bit_off : checkFrame ((frame 1 .active 5 [.claim 0 1 0]).chars.set 4 0xFF) = none := by
  decide +kernel

/-! ## Commands, each on a small state -/

/-- A station in JOINING, ACTIVE or RESYNC whose line carries a frame. -/
def hearing (s : State) : State := lnk (fun l => { l with line := .hearing }) s

/-- With a head command under way and one claim worked on. -/
def working (cmd : HeadCmd) (st : BState) (e : WorkEntry) (c : Cursor) : State :=
  bsq (fun b => { b with st := st, work := [e], cursor := some c, out := some ⟨cmd, 3, 100⟩, nextTag := 4, enabled := true }) active

/-- The first claim of a strip: group 0 of unit 1 of W0. -/
def claim : WorkEntry := ⟨0, 1, 0, 1, .none⟩
def testClaim : WorkEntry := ⟨0, 1, 4, 1, .none⟩
def firstWire : HeadCmd := .wire 0 1 1 2 3 4 true
def started : Cursor := ⟨0, 0, true, false⟩

theorem test_powerOn : leads (exec (.powerOn ⟨7, .pull, true, true, true⟩ { lv with clampClosed := true }) active) fun t =>
    t.su.straps.stn = 7 ∧ t.lnk.st = .listen ∧ t.ctu.rep = none ∧ t.tmu.clamp = .closed ∧ t.tmu.beam = .fault :=
  ⟨_, rfl, rfl, rfl, rfl, rfl, rfl⟩
theorem test_selfCheckEnd : leads (exec (.selfCheckEnd [.linkPath]) .reset) fun t =>
    t.su.failed = [.linkPath] ∧ t.lnk.quiet = .running := ⟨_, rfl, rfl, rfl⟩
theorem test_storeMountEnd : leads (exec (.storeMountEnd false) .reset) fun t =>
    t.rcu.store = .fault ∧ t.ocu.alarms = [⟨.storeFault, .raised, 0, 0⟩] := ⟨_, rfl, rfl, rfl⟩
theorem test_quietTimerExpiry : leads (exec .quietTimerExpiry listen) fun t => t.lnk.st = .joining ∧ t.lnk.cold = true :=
  ⟨_, rfl, rfl, rfl⟩
theorem test_readableFrameEnd : leads (exec (.readableFrameEnd (frame 7 .active 5 []).chars lv) (hearing listen)) fun t =>
    t.lnk.st = .joining ∧ t.lnk.slot = 0 ∧ t.lnk.round = 1 := ⟨_, rfl, by decide +kernel, by decide +kernel, by decide +kernel⟩
theorem test_unreadableFrameEnd : leads (exec (.unreadableFrameEnd lv) (hearing (lnk (fun l => { l with slot := 1 }) active)))
    fun t => t.lnk.st = .resync ∧ t.lnk.slot = 2 ∧ t.ctu.watch = some 0 := ⟨_, rfl, rfl, rfl, rfl⟩
theorem test_frameIdleEnd : leads (exec (.frameIdleEnd lv) (hearing listen)) fun t => t.lnk.line = .idle := ⟨_, rfl, rfl⟩
theorem test_slotSilence : leads (exec (.slotSilence lv) (lnk (fun l => { l with slot := 7, round := 65535 }) active)) fun t =>
    t.lnk.slot = 0 ∧ t.lnk.round = 0 := ⟨_, rfl, rfl, rfl⟩
theorem test_frameBuild : leads (exec .frameBuild active) fun t => t.lnk.sentRound = some 0 ∧ t.lnk.line ≠ .idle :=
  ⟨_, rfl, rfl, by decide +kernel⟩
theorem test_sendDeadlineMissed : leads (exec .sendDeadlineMissed active) fun t => t.lnk.noSend = true := ⟨_, rfl, rfl⟩
theorem test_readBackMismatch : leads (exec .readBackMismatch (lnk (fun l => { l with line := .sending [1] }) active)) fun t =>
    t.lnk.line = .fragment ∧ t.lnk.st = .active := ⟨_, rfl, rfl, rfl⟩
theorem test_taktExpiry : leads (exec .taktExpiry (wsc (fun w => { w with takt := .running }) active)) fun t =>
    t.wsc.takt = .expired := ⟨_, rfl, rfl⟩
theorem test_clampWaitExpiry : leads (exec .clampWaitExpiry (wsc (fun w => { w with clampWait := true }) active)) fun t =>
    t.lnk.queue = [⟨.indexFault 1 0xFF, .wsc, false⟩] := ⟨_, rfl, rfl⟩
theorem test_headCompletion : leads (exec (.headCompletion 3 (.done ⟨1, 2, 3,
    4⟩)) (working firstWire .running claim started)) fun t =>
    t.bsq.cursor = some ⟨1, 0, true, false⟩ ∧ t.bsq.out = some ⟨.wire 0 1 5 6 7 8 true, 4, 100⟩ ∧ t.rcu.lost = 1 :=
  ⟨_, rfl, rfl, rfl, rfl⟩
theorem test_headTimeout : leads (exec .headTimeout (working firstWire .running claim started)) fun t =>
    t.bsq.st = .halted ∧ t.bsq.late = some 3 ∧ t.bsq.work = [claim] := ⟨_, rfl, rfl, rfl, rfl⟩
theorem test_headAlert : leads (exec (.headAlert .wireOut) active) fun t => t.bsq.st = .spoolOut := ⟨_, rfl, rfl⟩
theorem test_keyPress : leads (exec (.keyPress 16) active) (fun t => t.ocu.keyQ = [16]) ∧
    leads (exec (.keyPress 17) active) (fun t => t.ocu.keyQ = [] ∧ t.ocu.keyDropped = 1) := ⟨⟨_, rfl, rfl⟩, ⟨_, rfl, rfl, rfl⟩⟩
theorem test_keyAck : leads (exec .keyAck (key 1 (raise .resync active))) fun t =>
    t.ocu.alarms = [⟨.resync, .acked, 0, 0⟩] := ⟨_, rfl, rfl⟩
theorem test_keyPause_keyResume : leads (exec .keyPause (key 2 active)) (fun t => t.bsq.st = .finishing) ∧
    leads (exec .keyResume (key 3 (bsq (fun b => { b with st := .paused }) active))) (fun t => t.bsq.st = .idle) :=
  ⟨⟨_, rfl, rfl⟩, ⟨_, rfl, rfl⟩⟩
theorem test_keyClear_keySpool :
    leads (exec (.keyClear lv) (key 4 (bsq (fun b => { b with st := .halted, enabled := true }) active)))
      (fun t => t.bsq.out = some ⟨.rethread, 0, 100⟩) ∧
    leads (exec .keySpool (key 5 (bsq (fun b => { b with st := .spoolOut, enabled := true }) active)))
      (fun t => t.bsq.out = some ⟨.rethread, 0, 100⟩) := ⟨⟨_, rfl, rfl⟩, ⟨_, rfl, rfl⟩⟩
theorem test_keyHoldRel : leads (exec .keyHoldRel (key 6 (inState .active { table fresh with holds := 1 }))) fun t =>
    t.lnk.queue = [⟨.holdOff 0, .wsc, false⟩] := ⟨_, rfl, rfl⟩
theorem test_keySkip : leads (exec .keySkip (key 7 (ocu (fun o => { o with mapCursor := some (0, 1) }) active))) fun t =>
    t.lnk.queue = [⟨.skip 0 1, .wsc, false⟩] ∧ t.wsc.skips = [⟨0, 1, 1, true⟩] := ⟨_, rfl, rfl, rfl⟩
theorem test_keyArrow : leads (exec (.keyArrow .right) (key 12 (ocu (fun o => { o with mapCursor := some (0, 0) }) active))) fun t =>
    t.ocu.mapCursor = some (0, 1) := ⟨_, rfl, rfl⟩
theorem test_keySeated_keyRemoved :
    leads (exec .keySeated (key 13 (tmu (fun t => { t with pushIn := ⟨.fault, some ⟨1, .input, 0⟩⟩, feedDuty := true }) active)))
      (fun t => t.lnk.queue = [⟨.load 1 2, .tmu, false⟩]) ∧
    leads (exec .keyRemoved (key 14 (tmu (fun t => { t with pushIn := ⟨.fault, some ⟨1, .input, 0⟩⟩ }) active)))
      (fun t => t.lnk.queue = [⟨.writeOff 2 0 1, .tmu, false⟩]) := ⟨⟨_, rfl, rfl⟩, ⟨_, rfl, rfl⟩⟩
theorem test_keyMsg : leads (exec .keyMsgUp (key 15 active)) (fun t => t.ocu.viewTop = 0) ∧
    leads (exec .keyMsgDown (key 16 active)) (fun t => t.ocu.viewTop = 1) ∧
    leads (exec .keyMsgClr (key 8 (ocu (fun o => { o with line := 31, fullMark := true }) active)))
      (fun t => t.ocu.line = 0 ∧ t.ocu.fullMark = false) := ⟨⟨_, rfl, rfl⟩, ⟨_, rfl, rfl⟩, ⟨_, rfl, rfl, rfl⟩⟩
theorem test_printableByte_newLine : leads (exec .printableByte (text [0x41] active)) (fun t => t.ocu.col = 1 ∧
    t.ocu.textQ = []) ∧
    leads (exec .newLine (text [3] active)) (fun t => t.ocu.line = 1) := ⟨⟨_, rfl, rfl, rfl⟩, ⟨_, rfl, rfl⟩⟩
theorem test_control_codes :
    leads (exec .home (text [1] (ocu (fun o => { o with line := 9, col := 64 }) active))) (fun t => t.ocu.line = 0 ∧
        t.ocu.col = 0) ∧
    leads (exec .clearHistory (text [2] (ocu (fun o => { o with line := 9 }) active))) (fun t => t.ocu.line = 0) ∧
    leads (exec .clearToEndOfLine (text [4] (ocu (fun o => { o with hist := [[⟨0x41, true⟩]] }) active)))
      (fun t => t.ocu.hist = [List.replicate 64 ⟨0x20, false⟩]) ∧
    leads (exec .column (text [5, 63] active)) (fun t => t.ocu.col = 63) ∧
    leads (exec .emphasisOn (text [6] active)) (fun t => t.ocu.emph = true) ∧
    leads (exec .emphasisOff (text [7] active)) (fun t => t.ocu.emph = false) ∧
    leads (exec .backspace (text [8] (ocu (fun o => { o with col := 64 }) active))) (fun t => t.ocu.col = 63) ∧
    leads (exec .wrapOff (text [0x0E] active)) (fun t => t.ocu.wrap = false) ∧
    leads (exec .wrapOn (text [0x0F] active)) (fun t => t.ocu.wrap = true) ∧
    leads (exec .scrollOff (text [0x10] active)) (fun t => t.ocu.scroll = false) ∧
    leads (exec .scrollOn (text [0x11] active)) (fun t => t.ocu.scroll = true) ∧
    leads (exec .ignoredControl (text [0x7F] active)) (fun t => t.ocu.ctlIgnored = 1) :=
  ⟨⟨_, rfl, rfl, rfl⟩, ⟨_, rfl, rfl⟩, ⟨_, rfl, rfl⟩, ⟨_, rfl, rfl⟩, ⟨_, rfl, rfl⟩, ⟨_, rfl, rfl⟩, ⟨_, rfl, rfl⟩, ⟨_, rfl, rfl⟩,
    ⟨_, rfl, rfl⟩, ⟨_, rfl, rfl⟩, ⟨_, rfl, rfl⟩, ⟨_, rfl, rfl⟩⟩
theorem test_rowSendDone : leads (exec .rowSendDone (ocu (fun o => { o with portRow := some (3, []) }) active)) fun t =>
    t.ocu.portRow = none := ⟨_, rfl, rfl⟩
theorem test_clamp : leads (exec (.clampOpenSensed { lv with clampOpen := true }) (tmu (fun t => { t with clamp := .opening }) active))
      (fun t => t.tmu.clamp = .opened ∧ t.lnk.queue = [⟨.clampOpen 0, .tmu, false⟩]) ∧
    leads (exec .clampOpenLimit (tmu (fun t => { t with clamp := .opening }) active))
      (fun t => t.lnk.queue = [⟨.indexFault 0 0, .tmu, false⟩]) ∧
    leads (exec (.clampClosedSensed { lv with clampClosed := true }) (tmu (fun t => { t with clamp := .closing }) active))
      (fun t => t.tmu.clamp = .closed) ∧
    leads (exec .clampCloseLimit (tmu (fun t => { t with clamp := .closing }) active))
      (fun t => t.ocu.alarms = [⟨.clampFault, .raised, 0, 0⟩]) := ⟨⟨_, rfl, rfl, rfl⟩, ⟨_, rfl, rfl⟩, ⟨_, rfl, rfl⟩, ⟨_, rfl,
          rfl⟩⟩
theorem test_beam : leads (exec (.beamDone lv) (tmu (fun t => { t with beam := .moving }) active))
      (fun t => t.tmu.beam = .home ∧ t.lnk.queue = [⟨.indexDone 1 1, .tmu, false⟩]) ∧
    leads (exec (.beamJam lv) (tmu (fun t => { t with beam := .moving }) active))
      (fun t => t.lnk.queue = [⟨.indexFault 2 0xFF, .tmu, false⟩]) ∧
    leads (exec (.beamTimeout lv) (tmu (fun t => { t with beam := .moving }) active))
      (fun t => t.lnk.queue = [⟨.indexFault 3 0xFF, .tmu, false⟩]) ∧
    leads (exec (.beamHomeSensed { lv with beamHome := true }) active) (fun t => t.tmu.beam = .home) :=
  ⟨⟨_, rfl, rfl, rfl⟩, ⟨_, rfl, rfl⟩, ⟨_, rfl, rfl⟩, ⟨_, rfl, rfl⟩⟩
theorem test_elevator : leads (exec (.magazineInserted .good lv) (tmu (fun t => { t with unloadDuty := true }) active))
      (fun t => t.tmu.elGood = ⟨.homing, none, none, [], 0, false, 2, 10⟩) ∧
    leads (exec (.magazineRemoved .reject lv) (tmu (fun t => { t with unloadDuty := true, elReject := { t.elReject with st := .atSlot } }) active))
      (fun t => t.lnk.queue = [⟨.magazine 2 0 [], .tmu, false⟩]) ∧
    leads (exec (.elevatorStep .input lv) (tmu (fun t => { t with elInput := ⟨.seeking, some 1, some 0, [], 9, false, 2, 10⟩ }) active))
      (fun t => t.tmu.elInput.st = .atSlot ∧ t.tmu.elInput.cur = some 0) := ⟨⟨_, rfl, rfl⟩, ⟨_, rfl, rfl⟩, ⟨_, rfl, rfl, rfl⟩⟩
theorem test_push : leads (exec (.pushDone .input) (tmu (fun t => { t with pushIn := ⟨.pushing, some ⟨1, .input, 0⟩⟩ }) active))
      (fun t => t.tmu.pushIn.st = .reporting (.load 1 2)) ∧
    leads (exec (.pushJam .input) (tmu (fun t => { t with pushIn := ⟨.pushing, some ⟨1, .input, 0⟩⟩ }) active))
      (fun t => t.tmu.pushIn.st = .fault) ∧
    leads (exec (.pushLimit .output) (tmu (fun t => { t with pushOut := ⟨.pushing, some ⟨1, .good, 1⟩⟩ }) active))
      (fun t => t.ocu.alarms = [⟨.pushFault, .raised, 0, 0⟩]) := ⟨⟨_, rfl, rfl⟩, ⟨_, rfl, rfl⟩, ⟨_, rfl, rfl⟩⟩

/-- A PULL record with nothing remarkable in it. -/
def body : RecBody := ⟨0, 1, 1, 0, 0, 5, ⟨1, 2, 3, 4⟩, 0, 1, 20, 1, 0⟩

def openB : Block := ⟨.opened, 3, some 9, some 100, 1022, none⟩
def freeB : Block := ⟨.free, 4, none, none, 0, none⟩

/-- Two FREE and two used blocks, and one record waiting. -/
def store (port : Option FlashOp) : State :=
  rcu (fun r => { r with
    blocks := [freeB, { openB with written := 7 }, ⟨.erasing .running, 2, none, none, 0, none⟩, { freeB with erases := 5 }]
    queue := [body], newest := some 106, port := port }) active

theorem test_flashOpStart : leads (exec .flashOpStart (store none)) fun t => t.rcu.port = some (.record 1 7 107 (some 106)) :=
  ⟨_, rfl, rfl⟩
theorem test_recordProgramDone : leads (exec .recordProgramDone (store (some (.record 1 7 107 (some 106))))) fun t =>
    t.rcu.queue = [] ∧ (flashBytes t.flash 66016 64).take 5 = [107, 0, 0, 0, 0] := ⟨_, rfl, rfl, by decide +kernel⟩
theorem test_recordProgramFail : leads (exec .recordProgramFail (store (some (.record 1 7 107 (some 106))))) fun t =>
    t.rcu.queue = [body] ∧ t.rcu.newest = some 106 ∧ t.rcu.owed = [.badMark 1] ∧ t.rcu.fails = 1 := ⟨_, rfl, rfl, rfl, rfl, rfl⟩
theorem test_headers : leads (exec .headerProgramDone (store (some (.header (.erased 2))))) (fun t =>
      ((t.rcu.blocks[2]?).map (·.st)) = some .free) ∧
    leads (exec .headerProgramFail (store (some (.header (.erased 2))))) (fun t => ((t.rcu.blocks[2]?).map (·.st)) = some .bad) ∧
    leads (exec .eraseDone (store (some (.erase 2)))) (fun t => t.rcu.owed = [.erased 2]) ∧
    leads (exec .eraseFail (store (some (.erase 2)))) (fun t => t.rcu.owed = [.badMark 2] ∧ t.rcu.fails = 0) ∧
    leads (exec (.badMarkProgramDone true) (store (some (.header (.badMark 2))))) (fun t => t.flash = [(131076, 0)]) :=
  ⟨⟨_, rfl, rfl⟩, ⟨_, rfl, rfl⟩, ⟨_, rfl, rfl⟩, ⟨_, rfl, rfl, rfl⟩, ⟨_, rfl, rfl⟩⟩
theorem test_retractionDone : leads (exec (.retractionDone 0) (store (some (.mark ⟨8, 106, 2, 0⟩ true)))) fun t =>
    t.flash = [(66015, 0)] ∧ t.lnk.queue = [⟨.answer 2 8 0, .rcu, false⟩] := ⟨_, rfl, by decide +kernel, by decide +kernel⟩
theorem test_recordReadDone : leads (exec .recordReadDone
      (rcu (fun r => { r with fetch := some ⟨1, 2, 100, 106, 255, 0, 255, 0, 0, false, 5, 106, 0, 0, 0, 0, false⟩ })
        (store (some (.read 1 6 true))))) fun t =>
    (t.rcu.fetch.map fun f => (f.cursor, f.bad)) = some (107, 1) := ⟨_, rfl, by decide +kernel⟩
theorem test_frameBegin : leads (exec .frameBegin listen) fun t => t.lnk.line = .hearing := ⟨_, rfl, rfl⟩

/-- A threshold command acts only at the slot end at which its threshold is reached (assumption 8). -/
theorem test_thresholds : leads (exec (.stationAbsent lv) (lnk (fun l => { l with slot := 1 }) active)) (fun t => t.lnk.slot = 1) ∧
    leads (exec (.slotSilence lv) (lnk (fun l => { l with slot := 1 }) active)) (fun t => t.lnk.slot = 2) :=
  ⟨⟨_, rfl, rfl⟩, ⟨_, rfl, rfl⟩⟩

/-! ## The hypotheses of the statements are met: one theorem a statement, each clause at a boundary of its range -/

/-- A queue at its 24 places with one request waiting. -/
def full : State :=
  lnk (fun l => { l with queue := List.replicate 24 ⟨.indexStart, .wsc, false⟩, waiting := [⟨.indexStart, .wsc, false⟩] }) active

theorem witness_ScreenRedrawnAtTheEnd : active.stn ≤ 7 ∧ active.lnk.st ≠ .heldCheck ∧ active.su.held = some plan ∧
    active.seat = some ⟨0, 0, true, false, 0⟩ ∧ active.table = some (table fresh) ∧ (table fresh).phase = .opened ∧
    (table fresh).win? 0 = some fresh ∧ fresh.units[1]? = some (unit pending .pending none) ∧
    (raise .resync active).ocu.alarms.reverse[0]? = some ⟨.resync, .raised, 0, 0⟩ ∧
    listen.table = none ∧ active.ocu.hist[31]? = some (List.replicate 64 ⟨0x20, false⟩) :=
  ⟨by decide, by decide, rfl, rfl, rfl, rfl, rfl, rfl, rfl, rfl, rfl⟩

/-- Row 0 begins with the station, its state, its role and the index count. -/
theorem test_status_row : ((active.render.getD 0 []).take 17).map (·.ch) =
    [0x53, 0x30, 0x20, 0x41, 0x43, 0x54, 0x49, 0x56, 0x45, 0x20, 0x42, 0x20, 0x20, 0x20, 0x20, 0x20, 0x30] := by decide +kernel

theorem witness_EveryStepLeavesTheBlockSettled : ∃ t, ({ full with pending := [.frameBegin] } : State).Settled ∧
    full.lnk.Fits ∧ step { full with pending := [.frameBegin] } = .next t :=
  ⟨_, ⟨rfl, rfl, rfl, rfl⟩, ⟨by decide, by decide⟩, rfl⟩

/-- Every list of the scheduler and the record unit at its size, the trace ring at its 64 places with the reservation, the
staging buffer with its first and its last byte. -/
def crowded : State :=
  { active with wsc := { active.wsc with claims := List.replicate 2 ⟨0, 0, 0, 1, true⟩, skips := List.replicate 4 ⟨0, 1, 0, false⟩, untestable := (List.range 4).map fun u => (1, u) }
                rcu := { active.rcu with
                  queue := List.replicate 8 body, retr := List.replicate 4 ⟨0, 1, 2, 0⟩
                  ring := (List.range 62).map fun i => ⟨1, 1, 0, i, 0, ⟨1, 2, 3, 4⟩, 0, false, none⟩
                  resv := [⟨1, 1, 1, 2⟩], outRec := [.record 1 2 []], outEnd := some (.fetchEnd 1 2 0 0 0 0 0) }
                su := { active.su with staging := [(0, 7), (3961, 0)] }
                pending := [.frameBegin] }

theorem witness_SchedulerAndRecordListsKeepTheirSizes : ∃ t, crowded.wsc.Fits ∧ crowded.rcu.Fits ∧ crowded.rcu.TraceFits ∧
    crowded.rcu.OutAddressed ∧ crowded.su.StagingFits ∧ step crowded = .next t :=
  ⟨_, ⟨by decide, by decide, by decide⟩, ⟨by decide, by decide⟩, ⟨by decide, by decide, by decide +kernel⟩,
    (by decide : ∀ n ∈ crowded.rcu.outNotes, n.cls = .addressed),
    ⟨by decide, by decide⟩, rfl⟩

/-- Every list of the console at its size, cursor and view at their ends. -/
def console : State :=
  ocu (fun o => { o with alarms := List.replicate 8 ⟨.resync, .acked, 0, 0⟩, textQ := List.replicate 96 0x41, keyQ := List.replicate 8 1
                         line := 31, col := 64, viewTop := 24 }) active

theorem witness_ConsoleAndScreenKeepTheirSizes : ∃ t, console.ocu.Fits ∧ exec .frameBegin console = .next t :=
  ⟨_, ⟨by decide, by decide, by decide, by decide, by decide +kernel, by decide, by decide, by decide⟩, rfl⟩

theorem witness_OnlyFlashOperationsChangeTheFlash : ∃ t, Memory.wf [(0, 0), (4194303, 0xFE)] = true ∧
    touchesFlash .frameBegin = false ∧ exec .frameBegin { active with flash := [(0, 0), (4194303, 0xFE)] } = .next t :=
  ⟨_, by decide, rfl, rfl⟩

theorem witness_PowerOnPutsEveryBlockInItsFirstState : active.rcu.port = none := rfl

/-- A restart at its self-check, the sequencer in a state. -/
def restarted (st : BState) : State := su (fun u => { u with run := .restartCheck }) (bsq (fun b => { b with st := st }) listen)

theorem witness_SelfCheckEndStartsListening :
    (State.reset.Settled ∧ State.reset.lnk.st = .listen ∧ State.reset.su.run = .selfCheck ∧ State.reset.bsq.st = .idle ∧
      State.reset.bsq.stop = false ∧ State.reset.bsq.enabled = false) ∧
    ∀ st ∈ [BState.idle, .halted, .spoolOut], (restarted st).Settled ∧ (restarted st).lnk.st = .listen ∧
      (restarted st).su.run = .restartCheck ∧ (restarted st).bsq.stop = false ∧ (restarted st).bsq.enabled = false ∧
      (restarted st).bsq.work = [] ∧ (restarted st).bsq.st = st := by
  refine ⟨⟨⟨rfl, rfl, rfl, rfl⟩, rfl, rfl, rfl, rfl, rfl⟩, ?_⟩
  intro st h
  exact ⟨⟨rfl, rfl, rfl, rfl⟩, rfl, rfl, rfl, rfl, rfl, rfl⟩

/-- The image of the plan above (R183), its CRC at the end. -/
def image : List Byte :=
  [7, 0, 62, 0, 2, 2, 1, 2, 1, 1, 1, 1, 10, 0, 100, 0] ++ [1, 0, 2, 2, 2, 1, 10, 0, 10, 0, 10, 0, 10, 0, 10, 0] ++
  [0, 0, 0, 0, 0, 0] ++ [1, 1, 0, 1, 0, 0] ++ [1] ++ [0, 2, 0] ++ [0x01, 0x80, 2, 0, 3, 4] ++ [0x05, 0x80, 6, 0, 7, 8] ++
  [76, 25]

theorem test_plan_image : validPlan 7 image = some plan ∧ image.length = 62 ∧ validPlan 8 image = none ∧
    validPlan 7 (image.set 6 0) = none := by decide +kernel

/-- Station 0 of the plan, hearing station 1, with a state, a held plan and staged bytes. -/
def staged (st : StState) (h : Option Plan) (id : Nat) (bs : List (Nat × Byte)) : State :=
  let s := hearing (lnk (fun l => { l with st := st, slot := 1 }) listen)
  { s with su := { s.su with held := h, staging := bs, stagedId := id } }

theorem staged_hears (st : StState) (h : Option Plan) (id : Nat) (bs : List (Nat × Byte)) (ns : List Note)
    (x : st ≠ .listen) (y : (staged st h id bs).Ready) (c : checkFrame (joins 1 ns).chars = some (joins 1 ns)) :
    (staged st h id bs).HearsInPlace (joins 1 ns).chars (joins 1 ns) :=
  ⟨y, rfl, x, c, (by decide : (1 : Nat) ≠ 0), rfl, rfl⟩

/-- The bytes of the plan image up to an offset. -/
def upTo (n : Nat) : List (Nat × Byte) := (List.range n).map fun a => (a, image.getD a 0)

/-- The last chunk of the image, behind the three before it. -/
def lastChunk : List Byte := image.drop 48 ++ [0, 0]

/-- The bytes staged once a chunk is stored over what is staged. -/
def storedAt (base : List (Nat × Byte)) (off : Nat) (bs : List Byte) (a : Nat) : Option Byte :=
  if off ≤ a ∧ a < off + bs.length ∧ a < 3962 then bs[a - off]? else cellGet base a

/-- Each station state; a note with id 0 and one with another id than the target; a plan held with the id; a plan whose length
is not known, one with a byte missing, one with a length below 49, one that is complete but for another id, one that is
complete; a station the plan seats and one it does not. -/
theorem witness_PlanNotesAreStagedAndThePlanIsHeld :
    let n := Note.plan 7 48 lastChunk
    let bytes := (List.range 62).map fun a => (storedAt (upTo 48) 48 lastChunk a).getD 0
    (∀ st ∈ [StState.active, .resync, .heldCheck, .joining],
      (staged st none 7 (upTo 48)).HearsInPlace (joins 1 [n]).chars (joins 1 [n])) ∧
    (staged .joining none 7 (upTo 48)).su.StagingFits ∧ (joins 1 [n]).flags.noTable = true ∧
    (staged .joining none 0 []).HearsInPlace (joins 1 [.plan 0 0 lastChunk]).chars (joins 1 [.plan 0 0 lastChunk]) ∧
    (staged .joining (some plan) 0 []).HearsInPlace (joins 1 [n]).chars (joins 1 [n]) ∧
    (staged .joining none 7 []).HearsInPlace (joins 1 [n]).chars (joins 1 [n]) ∧ storedAt [] 48 lastChunk 2 = none ∧
    (∀ a < 62, (storedAt (upTo 48) 48 lastChunk a).isSome = true) ∧ storedAt (upTo 47) 48 lastChunk 47 = none ∧
    storedAt (upTo 48) 48 lastChunk 2 = some 62 ∧ storedAt (upTo 48) 48 lastChunk 3 = some 0 ∧
    rd16 bytes 60 = (crc16 (bytes.take 60)).toNat ∧ validPlan 7 bytes = some plan ∧ validPlan 8 bytes = none ∧
    storedAt [] 0 [7, 0, 48, 0] 2 = some 48 ∧ (plan.seated ⟨0, .bond, false, false, false⟩).isSome = true ∧
    plan.seated ⟨2, .bond, false, false, false⟩ = none ∧ plan.seated ⟨0, .pull, false, false, false⟩ = none ∧
    (plan.seats.map (·.stn)).Nodup ∧ active.su.held = some plan ∧ active.ownWindow = some 0 := by
  refine ⟨?_, ⟨by decide, by decide⟩, rfl, staged_hears _ _ _ _ _ (by decide) ⟨⟨rfl, rfl, rfl, rfl⟩, rfl⟩ (by decide +kernel),
    staged_hears _ _ _ _ _ (by decide) ⟨⟨rfl, rfl, rfl, rfl⟩, rfl⟩ (by decide +kernel),
        staged_hears _ _ _ _ _ (by decide) ⟨⟨rfl, rfl, rfl, rfl⟩, rfl⟩ (by decide +kernel),
    by decide, by decide +kernel, by decide +kernel, by decide +kernel, by decide +kernel, by decide +kernel,
    by decide +kernel, by decide +kernel, by decide, by decide, by decide, by decide, by decide, rfl, by decide⟩
  intro st h
  have c : checkFrame (joins 1 [.plan 7 48 lastChunk]).chars = some (joins 1 [.plan 7 48 lastChunk]) := by decide +kernel
  simp only [List.mem_cons, List.not_mem_nil, or_false] at h
  rcases h with rfl | rfl | rfl | rfl <;> exact staged_hears _ _ _ _ _ (by decide) ⟨⟨rfl, rfl, rfl, rfl⟩, rfl⟩ c

/-- A frame of an ACTIVE station with another plan sets the target id. -/
theorem test_plan_target : leads (exec (.readableFrameEnd (joins 1 [.plan 7 48 lastChunk]).chars lv)
    (lnk (fun l => { l with roster := l.roster.set 0 ⟨true, some .active, some .bond, .clear, 8, true, 0⟩ })
      (staged .joining none 7 (upTo 48)))) (fun t => t.su.held = none ∧ t.su.staging = []) ∧
    leads (exec (.readableFrameEnd (joins 1 [.plan 7 48 lastChunk]).chars lv) (staged .joining none 7 (upTo 48)))
      (fun t => t.su.held = some plan ∧ t.su.joinWatch = some 0) :=
  ⟨⟨_, rfl, by decide +kernel, by decide +kernel⟩, ⟨_, rfl, by decide +kernel, by decide +kernel⟩⟩

theorem witness_MountEndReadsTheHeadersAndSetsTheStore : State.reset.Settled ∧ State.reset.rcu.store = .mounting ∧
    State.reset.lnk.st ≠ .active ∧ State.reset.su.held = none ∧ State.reset.su.straps.storeLock = false ∧
    State.reset.ocu.alarms = [] := ⟨⟨rfl, rfl, rfl, rfl⟩, rfl, by decide, rfl, rfl, rfl⟩

/-- A block header with an erase count, a mark, a sequence number and a first number. -/
def header (n : Nat) (mark : Byte) (q f : Nat) : List Byte := le32 n ++ [mark] ++ le32 q ++ le32 f ++ List.replicate 19 0xFF

theorem witness_MountEndReadsTheHeadersAndSetsTheStore_headers :
    (∀ h ∈ [header 0 0xFE 0 0, header 0xFFFFFFFF 0xFF 1 1, header 0 0xFF 0xFFFFFFFF 0xFFFFFFFF, header 0 0xFF 0xFFFFFFFF 1,
      header 0xFFFFFFFE 0xFF 1 0xFFFFFFFF, header 7 0xFF 0xFFFFFFFE 1], h.length = 32) ∧
    rd8 (header 0 0xFE 0 0) 4 ≠ 0xFF ∧ rd32 (header 0xFFFFFFFF 0xFF 1 1) 0 = 0xFFFFFFFF ∧
    rd8 (header 0xFFFFFFFF 0xFF 1 1) 4 = 0xFF ∧ rd32 (header 0 0xFF 0xFFFFFFFF 0xFFFFFFFF) 5 = 0xFFFFFFFF ∧
    rd32 (header 0 0xFF 0xFFFFFFFF 0xFFFFFFFF) 9 = 0xFFFFFFFF ∧ rd32 (header 0 0xFF 0xFFFFFFFF 1) 9 = 1 ∧
    rd32 (header 0xFFFFFFFE 0xFF 1 0xFFFFFFFF) 5 = 1 ∧ rd32 (header 7 0xFF 0xFFFFFFFE 1) 5 = 0xFFFFFFFE ∧
    rd32 (header 7 0xFF 0xFFFFFFFE 1) 9 = 1 ∧ rd8 (header 7 0xFF 0xFFFFFFFE 1) 4 = 0xFF := by decide

/-- A flash whose blocks 1 and 2 have been opened one after the other, the second with one slot written. -/
def written : List Host.Cell :=
  flashProgram (flashProgram (flashProgram [] 65536 (header 3 0xFF 9 100)) 131072 (header 3 0xFF 10 1123)) (131072 + 32) [0]

theorem witness_MountEndReadsTheHeadersAndSetsTheStore_newest :
    let hdr := fun (i : Nat) => (List.range 32).map fun k => flashRead written (65536 * i + k)
    (List.range 64).filter (fun i => rd32 (hdr i) 5 != 0xFFFFFFFF) = [1, 2] ∧ rd32 (hdr 1) 5 = 9 ∧ rd32 (hdr 2) 5 = 10 ∧
    rd32 (hdr 1) 9 = 100 ∧ rd32 (hdr 2) 9 = 1123 ∧ rd32 (hdr 2) 0 = 3 ∧ rd8 (hdr 2) 4 = 0xFF ∧
    flashRead written (65536 * 2 + 32) ≠ 0xFF#8 ∧ ∀ x < 64, flashRead written (65536 * 2 + 32 + 64 + x) = 0xFF#8 := by decide +kernel

theorem witness_MountEndReadsTheHeadersAndSetsTheStore_state (m : List Host.Cell) :
    ({ State.reset with flash := m } : State).Settled := ⟨rfl, rfl, rfl, rfl⟩

/-- A record waits to be written, and the flash has every block BAD. -/
def allBad : State :=
  rcu (fun r => { r with queue := [body] }) { State.reset with flash := (List.range 64).map fun i => (65536 * i + 4, 0) }

/-- The newest number is that of the one slot written; with every block BAD, a record that waits is discarded. -/
theorem test_mount :
    (match exec (.storeMountEnd true) { State.reset with flash := written } with
      | .next t => t.rcu.newest
      | _ => none) = some 1123 ∧
    (match exec (.storeMountEnd true) allBad with
      | .next t => (t.rcu.store, t.rcu.queue, t.rcu.discarded)
      | _ => (.mounting, [], 0)) = (.full, [], 1) := by decide +kernel

/-- With STORE_LOCK set; the flash not answering; a header whose mark reads BAD with the other fields erased. -/
theorem witness_MountEndReadsTheHeadersAndSetsTheStore_locked :
    let s := su (fun u => { u with straps := { u.straps with storeLock := true } }) State.reset
    s.Settled ∧ s.rcu.store = .mounting ∧ s.lnk.st ≠ .active ∧ s.su.straps.storeLock = true ∧
    (leads (exec (.storeMountEnd true) s) fun t => t.rcu.store = .locked) ∧ allBad.Settled ∧ allBad.ocu.alarms = [] ∧
    (leads (exec (.storeMountEnd true) allBad) fun t => t.ocu.alarms = [⟨.storeFull, .raised, 0, 0⟩]) ∧
    rd8 (header 0xFFFFFFFF 0 0xFFFFFFFF 5) 4 ≠ 0xFF ∧ (header 0xFFFFFFFF 0 0xFFFFFFFF 5).length = 32 :=
  ⟨⟨rfl, rfl, rfl, rfl⟩, rfl, by decide, rfl, ⟨_, rfl, by decide +kernel⟩, ⟨rfl, rfl, rfl, rfl⟩, rfl,
    ⟨_, rfl, by decide +kernel⟩, by decide, by decide⟩

/-- In LISTEN with the quiet timer and the line as given. -/
def quiet (q : Quiet) (x : Line) : State := lnk (fun l => { l with quiet := q, line := x }) listen

theorem witness_QuietTimerSendsTheColdStartFrame :
    ∀ x ∈ [(Quiet.running, Line.idle), (.running, .hearing), (.due, .hearing)], (quiet x.1 x.2).Ready ∧
      (quiet x.1 x.2).lnk.st = .listen ∧ (quiet x.1 x.2).lnk.silenced = false := by
  intro x h
  exact ⟨⟨⟨rfl, rfl, rfl, rfl⟩, rfl⟩, rfl, rfl⟩

theorem witness_FrameBeginsAndUnreadableEndsItsSlot : listen.Ready ∧ listen.lnk.line = .idle ∧
    (hearing (slot 7 active)).Ready ∧ (hearing (slot 7 active)).lnk.line = .hearing ∧
    (hearing (slot 7 active)).lnk.st ≠ .listen ∧ (hearing (slot 7 active)).lnk.slot < 8 :=
  ⟨⟨⟨rfl, rfl, rfl, rfl⟩, rfl⟩, rfl, ⟨⟨rfl, rfl, rfl, rfl⟩, rfl⟩, rfl, by decide, by decide⟩

/-- Station 1, the pull station of the plan. -/
def pullStation (s : State) : State := su (fun u => { u with straps := ⟨1, .pull, false, false, false⟩ }) s

theorem witness_UnreadableFrameOrOtherDigestBringsResync :
    let s := hearing (pullStation active)
    s.Ready ∧ s.lnk.st = .active ∧ s.su.held = some plan ∧ s.lnk.line = .hearing ∧ s.lnk.slot ≠ s.stn ∧
    checkFrame (frame 0 .active 0 []).chars = some (frame 0 .active 0 []) ∧ 0 < s.stn ∧ s.lnk.slot = 0 ∧
    (frame 0 .active 0 []).round = s.lnk.round ∧ (frame 0 .active 0 []).planId = plan.id ∧
    s.ctu.rep = some (table fresh) ∧ (frame 0 .active 0 []).digest ≠ (table fresh).digest ∧
    (∀ n ∈ (frame 0 .active 0 []).notes, n ≠ .restart s.stn) ∧ s.ocu.alarms = [] :=
  ⟨⟨⟨rfl, rfl, rfl, rfl⟩, rfl⟩, rfl, rfl, rfl, by decide, by decide +kernel, by decide, rfl, rfl, rfl, rfl,
    by decide +kernel, by decide, rfl⟩

theorem witness_SilentSlotsCountAndTheThirdMakesAbsent : (slot 7 active).Ready ∧ (slot 7 active).lnk.line = .idle ∧
    (slot 7 active).lnk.follows = true ∧ (slot 7 active).lnk.slot < 8 ∧ (slot 7 active).lnk.slot ≠ (slot 7 active).stn ∧
    active.Ready ∧ active.lnk.slot = active.stn := ⟨⟨⟨rfl, rfl, rfl, rfl⟩, rfl⟩, rfl, rfl, by decide, by decide, ⟨⟨rfl, rfl,
        rfl, rfl⟩, rfl⟩, rfl⟩

/-- Station 1 present, ACTIVE, with a silent count. -/
def entry (n : Nat) (s : State) : State :=
  lnk (fun l => { l with roster := l.roster.set 1 ⟨true, some .active, some .pull, .clear, 7, true, n⟩ }) s

theorem witness_SilentSlotsCountAndTheThirdMakesAbsent_third : (slot 1 (entry 2 active)).Ready ∧
    (slot 1 (entry 2 active)).absenceDue = true ∧ (slot 1 (entry 2 active)).lnk.st = .active ∧
    (slot 1 (entry 2 active)).su.held = some plan ∧ (slot 1 (entry 2 active)).ctu.rep = some (table fresh) :=
  ⟨⟨⟨rfl, rfl, rfl, rfl⟩, rfl⟩, by decide, rfl, rfl, rfl⟩

theorem witness_TransmitFailureReturnsToListen : (lnk (fun l => { l with txFail := 2 }) active).Ready ∧
    (lnk (fun l => { l with txFail := 2 }) active).transmitFailureDue = true := ⟨⟨⟨rfl, rfl, rfl, rfl⟩, rfl⟩, by decide⟩

/-- JOINING, seated, the join watch at a count. -/
def joining (n : Nat) : State := su (fun u => { u with joinWatch := some n }) (slot 1 (inState .joining freshTable))

theorem witness_WatchesEndInAFreshTableOrInActive : (joining 7).Ready ∧ (joining 7).freshStartDue = true ∧
    (joining 7).lnk.st = .joining ∧ (joining 7).seat.isSome = true ∧ (joining 7).lnk.slot ≠ (joining 7).stn :=
  ⟨⟨⟨rfl, rfl, rfl, rfl⟩, rfl⟩, by decide, rfl, by decide, by decide⟩

/-- RESYNC with the watch at a count. -/
def resync (n : Nat) : State :=
  let s := slot 1 (inState .resync (table fresh))
  { s with ctu := { s.ctu with watch := some n } }

theorem witness_WatchesEndInAFreshTableOrInActive_resync : (resync 23).Ready ∧ (resync 23).resyncDue = true ∧
    (resync 23).su.held = some plan ∧ (resync 23).lnk.slot ≠ (resync 23).stn ∧ (resync 23).ctu.rep.isSome = true :=
  ⟨⟨⟨rfl, rfl, rfl, rfl⟩, rfl⟩, by decide, rfl, by decide, rfl⟩

/-- The feed and unload station takes up its duties: with no magazine, with magazines off their home positions, with pending
pushes; and the RESYNC alarm stands when the watch ends. -/
theorem witness_WatchesEndInAFreshTableOrInActive_duties :
    let l : Levels := { lv with input := ⟨true, false, false⟩, good := ⟨true, false, false⟩, reject := ⟨true, false, false⟩ }
    let s := tmu (fun t => { t with pushIn := ⟨.idle, some ⟨1, .input, 0⟩⟩, pushOut := ⟨.idle, some ⟨1, .good, 1⟩⟩ })
      (su (fun u => { u with straps := ⟨0, .bond, true, true, false⟩ }) (joining 7))
    let z := ocu (fun o => { o with alarms := [⟨.resync, .raised, 0, 0⟩] }) (resync 23)
    (s.Ready ∧ s.freshStartDue = true ∧ s.lnk.st = .joining ∧ s.seat.isSome = true ∧ s.lnk.slot ≠ s.stn) ∧
    (∀ x ∈ [lv, l], leads (exec (.freshStart x) s) fun t =>
      t.lnk.st = .active ∧ t.ownWindow.isSome = true ∧ t.actsFeed = true ∧ t.actsUnload = true) ∧
    lv.input.present = false ∧ l.reject.present = true ∧ l.reject.home = false ∧ z.Ready ∧ z.resyncDue = true := by
  refine ⟨⟨⟨⟨rfl, rfl, rfl, rfl⟩, rfl⟩, by decide, rfl, by decide, by decide⟩, ?_, rfl, rfl, rfl, ⟨⟨rfl, rfl, rfl, rfl⟩,
      rfl⟩, by decide⟩
  intro x h
  simp only [List.mem_cons, List.not_mem_nil, or_false] at h
  rcases h with rfl | rfl <;> exact ⟨_, rfl, by decide +kernel, by decide +kernel, by decide +kernel, by decide +kernel⟩

/-- In its slot with a CLAIM, one that fails its check,
    an addressed note and a fetched record to send; no station may send in LISTEN. -/
def building : State :=
  rcu (fun r => { r with outRec := [.record 1 2 (List.replicate 64 0)] }) (lnk (fun l => { l with
    queue := [⟨.claim 0 0 0, .wsc, false⟩, ⟨.claim 0 9 0, .wsc, false⟩, ⟨.answer 1 2 3, .rcu, false⟩] }) active)

theorem witness_FrameBuildSendsTheFrameOfItsSlot : building.Ready ∧ building.lnk.Fits ∧ building.rcu.OutAddressed ∧
    building.lnk.st ≠ .listen ∧ building.lnk.slot = building.stn ∧ building.lnk.line = .idle ∧ building.lnk.noSend = false ∧
    building.lnk.sentRound ≠ some building.lnk.round ∧ listen.Ready ∧ listen.maySend = false :=
  ⟨⟨⟨rfl, rfl, rfl, rfl⟩, rfl⟩, ⟨by decide, by decide⟩, (by decide : ∀ n ∈ building.rcu.outNotes, n.cls = .addressed),
    by decide, rfl, rfl, rfl, by decide,
    ⟨⟨rfl, rfl, rfl, rfl⟩, rfl⟩, by decide⟩

/-- A RESYNC station passes over a SKIP queued before (assumption 64). -/
def skipping : State :=
  lnk (fun l => { l with st := .resync, queue := [⟨.skip 0 1, .wsc, false⟩, ⟨.release 0 1 0 0, .wsc, false⟩] }) active

theorem test_skip_waits : skipping.Ready ∧ skipping.build.frame.notes = [.release 0 1 0 0] ∧
    skipping.build.queue = [⟨.skip 0 1, .wsc, false⟩, ⟨.release 0 1 0 0, .wsc, true⟩] :=
  ⟨⟨⟨rfl, rfl, rfl, rfl⟩, rfl⟩, by decide, by decide⟩

theorem test_frame_order : building.build.frame.notes = [.claim 0 0 0, .answer 1 2 3, .record 1 2 (List.replicate 64 0)] ∧
    building.build.dropped.length = 1 := by decide +kernel

theorem witness_BuiltFramesKeepTheirLimits : ∀ n r, full.ctu.rep = some r → (r.body n).length ≤ 600 := by
  intro n r h
  have e : r = table fresh := (Option.some.inj h).symm
  subst e
  by_cases hn : n < 14
  · revert n
    decide +kernel
  · have h1 : (table fresh).win? (n / 2) = none := by
      simp only [Table.win?, table, List.getElem?_eq_none_iff.mpr (show [some fresh, none, none, none, none,
          none].length ≤ n / 2 by
        simp only [List.length_cons, List.length_nil]; omega)]
      rfl
    have h2 : (table fresh).win? (n / 2 - 1) = none := by
      simp only [Table.win?, table, List.getElem?_eq_none_iff.mpr (show [some fresh, none, none, none, none,
          none].length ≤ n / 2 - 1 by
        simp only [List.length_cons, List.length_nil]; omega)]
      rfl
    rw [Table.body, if_neg (by omega), if_neg (by omega)]
    split
    · rw [h1]; decide
    · rw [h2]; decide

/-- Sending its own frame, in cold start or not. -/
def sending (cold : Bool) : State := lnk (fun l => { l with line := .sending [0xD5], cold := cold, queue := [⟨.indexStart, .wsc, true⟩] }) active

theorem witness_FrameNotSentKeepsItsNotes : active.Ready ∧ active.lnk.st ≠ .listen ∧ active.lnk.slot = active.stn ∧
    active.lnk.line = .idle ∧ active.lnk.sentRound ≠ some active.lnk.round ∧ (hearing active).Ready ∧
    ∀ b, (sending b).Ready ∧ (sending b).lnk.st ≠ .listen ∧ (sending b).lnk.slot = (sending b).stn ∧
      (sending b).lnk.line = .sending [0xD5] ∧ (sending b).lnk.cold = b :=
  ⟨⟨⟨rfl, rfl, rfl, rfl⟩, rfl⟩, by decide, rfl, rfl, by decide, ⟨⟨rfl, rfl, rfl, rfl⟩, rfl⟩,
    fun b => ⟨⟨⟨rfl, rfl, rfl, rfl⟩, rfl⟩, by cases b <;> decide, rfl, rfl, rfl⟩⟩

/-- R11: a frame taken back by its deadline may be built again in a slot that begins anew in the round. -/
theorem test_deadline_frees_the_round : leads (exec .sendDeadlineMissed (lnk (fun l => { l with sentRound := some 0 }) (sending false)))
    fun t => t.lnk.line = .idle ∧ t.lnk.sentRound = none ∧ (lnk (fun l => { l with noSend := false }) t).maySend = true :=
  ⟨_, rfl, rfl, rfl, by decide⟩

theorem witness_ReadableFrameUpdatesItsEntryOrEndsListen :
    let s := hearing (slot 7 active)
    let f := frame 7 .active 5 [.restart 1]
    s.Ready ∧ checkFrame f.chars = some f ∧ s.lnk.line = .hearing ∧ s.lnk.st ≠ .listen ∧ f.sender ≠ s.stn ∧
    f.round = s.lnk.round ∧ f.sender = s.lnk.slot ∧ ∀ n ∈ f.notes, n ≠ .restart s.stn :=
  ⟨⟨⟨rfl, rfl, rfl, rfl⟩, rfl⟩, by decide +kernel, rfl, by decide, by decide, rfl, rfl, by decide⟩

/-- A frame two positions ahead, one behind, one far away; and a station that rejoins. -/
theorem witness_ReadableFrameUpdatesItsEntryOrEndsListen_corrections :
    let s := hearing (slot 7 active)
    (∀ f ∈ [{ joins 1 [] with round := 1 }, joins 6 [], { joins 1 [] with round := 900 }], checkFrame f.chars = some f ∧
      f.sender ≠ s.stn ∧ ∀ n ∈ f.notes, n ≠ .restart s.stn) ∧ s.lnk.slot < 8 ∧
    (hearing (slot 1 (entry 1 active))).HearsInPlace (joins 1 []).chars (joins 1 []) ∧
    (active.lnk.entry 1).present = false ∧ ((entry 1 active).lnk.entry 1).last = some .active :=
  ⟨by decide +kernel, by decide, ⟨⟨⟨rfl, rfl, rfl, rfl⟩, rfl⟩, rfl, by decide, by decide +kernel, by decide, rfl, rfl⟩, rfl, rfl⟩

/-- The two slots skipped count as silent, but for the own one; the station behind them is heard. -/
theorem test_skipped_slots : leads (exec (.readableFrameEnd ({ joins 1 [] with round := 1 } : Frame).chars lv)
      (hearing (slot 7 (lnk (fun l => { l with
        roster := l.roster.set 7 ⟨true, some .active, some .bond, .clear, 7, true, 0⟩ }) active))))
    fun t => (t.lnk.entry 7).silent = 1 ∧ (t.lnk.entry 1).present = true ∧ t.lnk.slot = 2 :=
  ⟨_, rfl, by decide +kernel, by decide +kernel, by decide +kernel⟩

theorem witness_ReadableFrameUpdatesItsEntryOrEndsListen_listen :
    let s := hearing listen
    let f := frame 7 .active 5 []
    s.Ready ∧ checkFrame f.chars = some f ∧ s.lnk.line = .hearing ∧ s.lnk.st = .listen ∧ s.lnk.silenced = false ∧
    f.sender ≠ s.stn ∧ ∀ n ∈ f.notes, n ≠ .restart s.stn :=
  ⟨⟨⟨rfl, rfl, rfl, rfl⟩, rfl⟩, by decide +kernel, rfl, rfl, rfl, by decide, by decide⟩

/-- A frame that leaves no feed station shown, and one that shows the feed and unload station again. -/
theorem witness_ReadableFrameUpdatesItsEntryOrEndsListen_absent :
    let f := joins 1 []
    let g := { frame 1 .active 0 [] with flags := { HFlags.clear with feed := true, unload := true } }
    let s := fun (b : Bool) (l : List AlarmEntry) =>
      ocu (fun o => { o with feedAbs := b, unloadAbs := b, alarms := l }) (hearing (slot 1 active))
    (s false []).HearsInPlace f.chars f ∧ (∀ l, (s true l).HearsInPlace g.chars g) ∧
    (∀ n ∈ f.notes, n ≠ .restart active.stn) ∧
    (leads (exec (.readableFrameEnd f.chars lv) (s false [])) fun t => t.ocu.feedAbs = true ∧ t.ocu.unloadAbs = true) ∧
    ∀ a ∈ [Alarm.feedAbsent, .unloadAbsent], leads (exec (.readableFrameEnd g.chars lv) (s true [⟨a, .raised, 3, 1⟩]))
      fun t => t.ocu.feedAbs = false ∧ t.ocu.unloadAbs = false := by
  have c : checkFrame (joins 1 []).chars = some (joins 1 []) := by decide +kernel
  refine ⟨⟨⟨⟨rfl, rfl, rfl, rfl⟩, rfl⟩, rfl, by decide, c, by decide, rfl, rfl⟩, fun l => ⟨⟨⟨rfl, rfl, rfl, rfl⟩, rfl⟩, rfl,
      (by decide : StState.active ≠ .listen), by decide +kernel, (by decide : (1 : Nat) ≠ 0), rfl, rfl⟩,
    by decide, ⟨_, rfl, by decide +kernel, by decide +kernel⟩, ?_⟩
  intro a h
  simp only [List.mem_cons, List.not_mem_nil, or_false] at h
  rcases h with rfl | rfl <;> exact ⟨_, rfl, by decide +kernel, by decide +kernel⟩

theorem witness_DuplicateNumberSilencesTheStation :
    let f := frame 0 .active 5 []
    (hearing listen).Ready ∧ (hearing active).Ready ∧ checkFrame f.chars = some f ∧ (hearing listen).lnk.line = .hearing ∧
    f.sender = (hearing listen).stn ∧ (hearing listen).lnk.silenced = false ∧ (hearing active).lnk.st ≠ .listen ∧
    (hearing active).ocu.alarms = [] :=
  ⟨⟨⟨rfl, rfl, rfl, rfl⟩, rfl⟩, ⟨⟨rfl, rfl, rfl, rfl⟩, rfl⟩, by decide +kernel, rfl, rfl, rfl, by decide, rfl⟩

/-- Silenced by a duplicate (R17), hearing a frame with a RESTART for another station. -/
def silenced : State := hearing (lnk (fun l => { l with st := .listen, silenced := true, quiet := .stopped }) listen)

theorem witness_DuplicateNumberSilencesTheStation_stays :
    let f := frame 7 .active 5 [.restart 1]
    ∃ t, silenced.lnk.st = .listen ∧ silenced.lnk.silenced = true ∧ (∀ sent, silenced.lnk.line ≠ .sending sent) ∧
      checkFrame f.chars = some f ∧ .restart silenced.stn ∉ f.notes ∧
      exec (.readableFrameEnd f.chars lv) silenced = .next t ∧ t.lnk.slot = 0 :=
  ⟨_, rfl, rfl, by simp [silenced, hearing, lnk], by decide +kernel, by decide, rfl, by decide +kernel⟩

/-- Station 1 with both duty straps, hearing the frame of station 0. -/
def feedStation : State :=
  ocu (fun o => { o with magIn := true })
    (hearing (slot 0 (su (fun u => { u with straps := ⟨1, .pull, true, true, false⟩ }) active)))

theorem feedStation_hears (f : Frame) (h : checkFrame f.chars = some f) (k : f.sender = 0) (r : f.round = 0) :
    feedStation.HearsInPlace f.chars f :=
  ⟨⟨⟨rfl, rfl, rfl, rfl⟩, rfl⟩, rfl, by decide, h, by rw [k]; decide, k, r⟩

/-- Another plan from station 0 for station 1, and from station 1 for station 0; both duty flags from station 0; a RESTART for
station 1, in ACTIVE and in the silenced LISTEN. -/
theorem witness_ConflictsAndRestartEndTheWork :
    let f := { frame 0 .active 0 [] with planId := 8 }
    let g := { frame 1 .active 0 [] with planId := 8 }
    let up := hearing (slot 1 active)
    let d := { frame 0 .active 0 [] with flags := { HFlags.clear with feed := true, unload := true } }
    let q := joins 0 [.restart 1, .text 1 [0x41]]
    let z := hearing (su (fun u => { u with straps := ⟨1, .pull, true, true, false⟩ })
      (lnk (fun l => { l with silenced := true, quiet := .stopped }) listen))
    (feedStation.HearsInPlace f.chars f ∧ feedStation.lnk.st = .active ∧ feedStation.su.held = some plan ∧
      f.flags.noTable = false ∧ f.planId ≠ plan.id ∧ f.sender < feedStation.stn ∧ feedStation.bsq.out = none ∧
      feedStation.bsq.st = .idle ∧ feedStation.rcu.queue = [] ∧ feedStation.ocu.alarms = []) ∧
    (up.HearsInPlace g.chars g ∧ up.stn < g.sender) ∧
    (feedStation.HearsInPlace d.chars d ∧ d.sender < feedStation.lnk.roster.length ∧ feedStation.su.straps.feed = true ∧
      feedStation.su.feedLost = false ∧ feedStation.su.straps.unload = true ∧ feedStation.su.unloadLost = false ∧
      ∀ n ∈ d.notes, n ≠ .restart feedStation.stn) ∧
    (feedStation.HearsInPlace q.chars q ∧ q.flags.noTable = true ∧ feedStation.rcu.port = none ∧
      ∀ n ∈ [Note.text 1 [0x41]], n.cls ≠ .table) ∧
    (z.Ready ∧ z.lnk.line = .hearing ∧ checkFrame q.chars = some q ∧ z.lnk.st = .listen ∧ z.lnk.silenced = true ∧
      q.sender ≠ z.stn ∧ q.sender = z.lnk.slot ∧ q.round = z.lnk.round) ∧
    ∃ t, exec .frameBegin (su (fun u => { u with feedLost := true, unloadLost := true }) active) = .next t ∧
      t.su.run = .running :=
  ⟨⟨feedStation_hears _ (by decide +kernel) rfl rfl, rfl, rfl, rfl, by decide, by decide, rfl, rfl, rfl, rfl⟩,
    ⟨⟨⟨⟨rfl, rfl, rfl, rfl⟩, rfl⟩, rfl, by decide, by decide +kernel, by decide, rfl, rfl⟩, by decide⟩,
    ⟨feedStation_hears _ (by decide +kernel) rfl rfl, by decide, rfl, rfl, rfl, rfl, by decide⟩,
    ⟨feedStation_hears _ (by decide +kernel) rfl rfl, rfl, rfl, by decide⟩,
    ⟨⟨⟨rfl, rfl, rfl, rfl⟩, rfl⟩, rfl, by decide +kernel, rfl, rfl, by decide, rfl, rfl⟩, _, rfl, rfl⟩

/-- The restart sequence with a command of the head under way, and an elevator in FAULT: the head port keeps its command (R38,
R106), and the elevator is idle (R38). -/
theorem test_restart : leads (exec (.readableFrameEnd (joins 0 [.restart 1]).chars lv)
    (tmu (fun t => { t with elInput := ⟨.fault, none, none, [], 40, false, 2, 10⟩ })
    (bsq (fun b => { b with st := .running, work := [⟨0, 1, 0, 1, .none⟩], cursor := some ⟨0, 0, true, false⟩
                            out := some ⟨.wire 0 1 1 2 3 4 true, 3, 100⟩, enabled := true }) feedStation))) fun t =>
    t.su.run = .resting ∧ t.bsq.work = [] ∧ (t.bsq.out.map (·.tag)) = some 3 ∧ t.tmu.elInput.st = .atSlot :=
  ⟨_, rfl, by decide +kernel, by decide +kernel, by decide +kernel, by decide +kernel⟩

theorem witness_NoteQueueIsFirstInFirstOut : full.lnk.Fits ∧ active.lnk.Fits :=
  ⟨⟨by decide, by decide⟩, by decide, by decide⟩

/-- The own frame read back, one note of the queue in flight, with one record of the fetch in flight and with its end. -/
theorem witness_NoteQueueIsFirstInFirstOut_readBack :
    let f := joins 0 [.answer 1 2 3]
    let s := fun (n : Nat) => lnk (fun l => { l with line := .sending f.chars, queue := [⟨.answer 1 2 3, .rcu, true⟩, ⟨.indexStart, .wsc, false⟩] })
      (rcu (fun r => { r with outRec := [.record 1 2 (List.replicate 64 0)], outEnd := some (.fetchEnd 1 2 0 1 1 0 0), outFlight := n })
        active)
    (∀ n, (s n).Ready ∧ (s n).lnk.line = .sending f.chars ∧ (s n).rcu.outRec.length = 1 ∧ (s n).rcu.outFlight = n ∧
      f.sender = (s n).stn ∧ f.sender = (s n).lnk.slot ∧ f.round = (s n).lnk.round ∧ (s n).lnk.st ≠ .listen ∧
      (s n).wsc.skips = [] ∧ (s n).lnk.Fits) ∧
    checkFrame f.chars = some f ∧ ∀ n ∈ f.notes, n.cls = .addressed ∧ n.target ≠ some active.stn :=
  ⟨fun n => ⟨⟨⟨rfl, rfl, rfl, rfl⟩, rfl⟩, rfl, rfl, rfl, rfl, rfl, rfl, (by decide : StState.active ≠ .listen), rfl,
      (by decide : [(⟨.answer 1 2 3, .rcu, true⟩ : QNote), ⟨.indexStart, .wsc, false⟩].length ≤ 24),
      (by decide : ∀ q ∈ active.lnk.waiting, q.inFlight = false)⟩,
      by decide +kernel, by decide⟩

/-- Station 0 hearing the frame of station 1, the record unit as given. -/
def asked (f : Rcu → Rcu) : State :=
  rcu f (rcu (fun r => { r with blocks := [openB], newest := some 106 }) (hearing (slot 1 active)))

theorem asked_hears (f : Rcu → Rcu) (ns : List Note) (c : checkFrame (joins 1 ns).chars = some (joins 1 ns)) :
    (asked f).HearsInPlace (joins 1 ns).chars (joins 1 ns) :=
  ⟨⟨⟨rfl, rfl, rfl, rfl⟩, rfl⟩, rfl, (by decide : StState.active ≠ .listen), c, (by decide : (1 : Nat) ≠ 0), rfl, rfl⟩

/-- A FETCH of the records from a number, with a maximum. -/
def fetches (first last max : Nat) : FetchNote := ⟨1, first, last, 7, 0, 31, 3, 65535, 1, max⟩

/-- A scan under way for tag 1. -/
def scanning : Fetch := ⟨1, 2, 100, 106, 7, 0, 31, 0, 0, false, 5, 106, 2, 105, 0, 0, false⟩

/-- FETCH with no fetch running, to the last record, beyond it, and with maximum 0; with a fetch running; in FAULT; with a code
above the last. CANCEL of the tag and of another. RETRACT of the first and the last number and beyond, with the list full, in
each store state that refuses it. TEXT of 24 bytes. A note for station 7. -/
theorem witness_AddressedNotesAreTakenByTheirOwner :
    (∀ f, ∀ n ∈ [Note.fetch 0 (fetches 0 0xFFFFFFFF 1), .fetch 0 (fetches 107 0xFFFFFFFE 255), .fetch 0 (fetches 0 106 0),
      .fetch 0 { fetches 0 1 1 with kinds := 8 }, .cancel 0 1, .cancel 0 255, .retract 0 1 100, .retract 0 1 106,
      .retract 0 1 107, .text 0 (List.replicate 24 0), .cancel 7 1],
      (asked f).HearsInPlace (joins 1 [n]).chars (joins 1 [n])) ∧
    (joins 1 []).flags.noTable = true ∧ (asked id).rcu.fetch = none ∧ (asked id).rcu.store = .ready ∧
    (asked id).rcu.oldest = some 100 ∧ (asked id).rcu.newest = some 106 ∧
    (asked fun r => { r with fetch := some scanning, port := some (.read 0 6 true) }).rcu.fetch = some scanning ∧
    (asked fun r => { r with retr := List.replicate 4 ⟨0, 1, 2, 0⟩ }).rcu.retr.length = 4 := by
  refine ⟨?_, rfl, rfl, rfl, by decide, rfl, rfl, rfl⟩
  intro f n h
  apply asked_hears
  simp only [List.mem_cons, List.not_mem_nil, or_false] at h
  rcases h with rfl | rfl | rfl | rfl | rfl | rfl | rfl | rfl | rfl | rfl | rfl <;> decide +kernel

theorem test_fetch : leads (exec (.readableFrameEnd (joins 1 [.fetch 0 (fetches 0 0xFFFFFFFF 1)]).chars lv) (asked id)) fun t =>
    (t.rcu.fetch.map fun f => (f.start, f.lim, f.closing)) = some (100, 106, false) := ⟨_, rfl, by decide +kernel⟩

theorem witness_NotesAndFramesAreReadBackFromTheirBytes : ∀ n ∈ [Note.claim 255 255 255, .magazine 255 255 (List.replicate 40 3),
    .text 255 (List.replicate 24 0xFF), .retract 255 255 4294967295, .plan 65535 65535 (List.replicate 16 0)], n.fits = true := by
  decide

theorem witness_NotesAndFramesAreReadBackFromTheirBytes_frame :
    (frame 7 .active 0xFFFF [.text 7 (List.replicate 24 0x2A)]).fits = true := by decide +kernel

theorem witness_FourteenSectionsMakeTheWholeTable : (table fresh).fits plan = true ∧
    freshTable.fits plan = true := by decide +kernel

theorem witness_NotesOfAFrameAreAppliedInOrder :
    let s := hearing (slot 1 active)
    let f := frame 1 .resync 0 [.claim 0 0 0, .indexStart]
    let g := frame 0 .active 0 [.claim 0 0 0]
    let o := lnk (fun l => { l with line := .sending g.chars }) active
    (s.Ready ∧ s.lnk.st = .active ∧ s.su.held = some plan ∧ s.ctu.rep = some (table fresh) ∧ checkFrame f.chars = some f ∧
      s.lnk.line = .hearing ∧ f.sender ≠ s.stn ∧ f.round = s.lnk.round ∧ f.sender = s.lnk.slot ∧ f.state = .resync ∧
      f.planId = plan.id ∧ s.stn ≤ f.sender ∧ ∀ n ∈ f.notes, n ≠ .restart s.stn) ∧
    (o.Ready ∧ o.lnk.line = .sending g.chars ∧ g.sender = o.stn ∧ checkFrame g.chars = some g ∧ g.sender = o.lnk.slot ∧
      g.state = .active ∧ o.stn ≤ g.sender ∧ ∀ n ∈ g.notes, n ≠ .restart o.stn) :=
  ⟨⟨⟨⟨rfl, rfl, rfl, rfl⟩, rfl⟩, rfl, rfl, rfl, by decide +kernel, rfl, by decide, rfl, rfl, rfl, rfl, by decide, by decide⟩,
    ⟨⟨rfl, rfl, rfl, rfl⟩, rfl⟩, rfl, rfl, by decide +kernel, rfl, rfl, by decide, by decide⟩

def clamped (c : ClampSt) (b : BeamSt) (s : State) : State := tmu (fun t => { t with clamp := c, beam := b }) s

def done : GEntry := ⟨.done, some 0, 2⟩

def good : Strip := strip (unit done .none none) (unit done .done none)

/-- One traced wire of strip 1 with its entry open, or under program. -/
def traced (w : Bool) : TraceEntry := ⟨1, 1, 0, 0, 5, ⟨1, 2, 3, 4⟩, 0, w, none⟩

/-- A unit bonded by station 0 and claimed for its pull test by station 0. -/
def underTest : Strip := strip (unit pending .none none) ⟨.opened, .claimed, some 0, [⟨.done, some 0, 2⟩]⟩

/-- A unit claimed by station 0. -/
def claimedStrip : Strip := strip (unit pending .none none) (unit ⟨.claimed, some 0, 0⟩ .pending none)

/-- The own frame of the feed and unload station with one note. -/
def noted (n : Note) : Frame :=
  { frame 0 .active 0 [n] with flags := { HFlags.clear with feed := true, unload := true } }

/-- A feed and unload station with a table, whose frame with one note has been sent, its blocks as given. -/
def own (t : Table) (n : Note) (g : State → State) : State :=
  let s := su (fun u => { u with straps := ⟨0, .bond, true, true, false⟩ }) (inState .active t)
  g (ocu (fun o => { o with magIn := s.magInNow }) (lnk (fun l => { l with line := .sending (noted n).chars })
    (bsq (fun b => { b with enabled := true, head := .parked })
      (tmu (fun t => { t with duty := true, feedDuty := true, unloadDuty := true, beam := .home }) s))))

/-- The note reaches the table of a settled ACTIVE station from its own frame. -/
def Reaches (t : Table) (n : Note) (s : State) : Prop :=
  s.Ready ∧ s.lnk.st = .active ∧ s.su.held = some plan ∧ s.ctu.rep = some t ∧ s.lnk.line = .sending (noted n).chars ∧
  checkFrame (noted n).chars = some (noted n) ∧ (noted n).sender = s.stn ∧ (noted n).sender = s.lnk.slot ∧
  (noted n).round = s.lnk.round

/-- The verdict of the table on it. -/
def accepts (t : Table) (n : Note) : Bool := (judge plan ⟨0, .active, (noted n).flags⟩ t n).isSome

/-- INDEX_START with the clamp closed and open, the head idle; INDEX_DONE with and without shift; the CLAMP_OPEN that
completes the set, the beam HOME, not HOME, and without the duty. -/
theorem witness_NotesOfAFrameAreAppliedInOrder_index :
    let m := { table fresh with phase := .moving, clampSet := 2 }
    let d := { table fresh with phase := .fault }
    let a := fun (c : ClampSt) => own (table fresh) .indexStart fun s => clamped c .home
      (wsc (fun w => { w with takt := .running }) (bsq (fun b => { b with head := .atWork }) s))
    (∀ c, Reaches (table fresh) .indexStart (a c)) ∧
    accepts (table fresh) .indexStart = true ∧ (∀ c, (a c).ownWindow = some 0 ∧ (a c).tmu.duty = true ∧ (a c).bsq.st = .idle ∧
      (a c).bsq.out = none ∧ (a c).bsq.head = .atWork ∧ (a c).headFree = true ∧ (a c).tmu.clamp = c) ∧
    (∀ n ∈ [Note.indexDone 1 1, .indexDone 0 0], Reaches d n (own d n id) ∧ accepts d n = true) ∧
    (∀ b y, Reaches m (.clampOpen 0) (own m (.clampOpen 0) (tmu fun t => { t with beam := b, feedDuty := y }))) ∧
    accepts m (.clampOpen 0) = true ∧ m.clampSet.getLsbD 0 = false ∧
    ∀ k < 2, ({ m with clampSet := 3 } : Table).clampSet.getLsbD k = true := by
  have i : checkFrame (noted .indexStart).chars = some (noted .indexStart) := by decide +kernel
  have j : checkFrame (noted (.clampOpen 0)).chars = some (noted (.clampOpen 0)) := by decide +kernel
  refine ⟨fun c => by cases c <;> exact ⟨⟨⟨rfl, rfl, rfl, rfl⟩, rfl⟩, rfl, rfl, rfl, rfl, i, rfl, rfl, rfl⟩,
      by decide +kernel, fun c => ⟨rfl, rfl, rfl, rfl, rfl, rfl, rfl⟩, ?_,
    fun b y => ⟨⟨⟨rfl, rfl, rfl, rfl⟩, rfl⟩, rfl, rfl, rfl, rfl, j, rfl, rfl, rfl⟩, by decide +kernel, by decide, by decide⟩
  intro n h
  simp only [List.mem_cons, List.not_mem_nil, or_false] at h
  rcases h with rfl | rfl <;>
    exact ⟨⟨⟨⟨rfl, rfl, rfl, rfl⟩, rfl⟩, rfl, rfl, rfl, rfl, by decide +kernel, rfl, rfl, rfl⟩, by decide +kernel⟩

/-- An own CLAIM with a command outstanding, and with the takt expired; an own RELEASE and DONE applied, and a DONE refused. -/
theorem witness_NotesOfAFrameAreAppliedInOrder_claims :
    let c := Note.claim 0 1 0
    let s := fun (x : Takt) => own (table fresh) c fun s => wsc (fun w => { w with claims := [⟨0, 1, 0, 1, false⟩], takt := x })
      (bsq (fun b => { b with out := some ⟨.park, 3, 100⟩ }) s)
    (∀ x, Reaches (table fresh) c (s x) ∧ (s x).bsq.out.isSome = true ∧ (s x).bsq.st = .idle ∧
      (s x).wsc.claims.find? (fun e => !e.held && (e.win == 0 && e.unit == 1 && e.group == 0)) = some ⟨0, 1, 0, 1, false⟩) ∧
    accepts (table fresh) c = true ∧
    (∀ n ∈ [Note.release 0 1 0 1, .done 0 1 0 0, .done 0 1 0 9], Reaches (table claimedStrip) n
      (own (table claimedStrip) n (wsc fun w => { w with claims := [⟨0, 1, 0, 1, true⟩] }))) ∧
    accepts (table claimedStrip) (.release 0 1 0 1) = true ∧ accepts (table claimedStrip) (.done 0 1 0 0) = true ∧
    accepts (table claimedStrip) (.done 0 1 0 9) = false := by
  have j : checkFrame (noted (.claim 0 1 0)).chars = some (noted (.claim 0 1 0)) := by decide +kernel
  refine ⟨fun x => ⟨⟨⟨⟨rfl, rfl, rfl, rfl⟩, rfl⟩, rfl, rfl, rfl, rfl, j, rfl, rfl, rfl⟩, rfl, rfl, rfl⟩, by decide +kernel,
      ?_, by decide +kernel, by decide +kernel, by decide +kernel⟩
  intro n h
  simp only [List.mem_cons, List.not_mem_nil, or_false] at h
  rcases h with rfl | rfl | rfl <;> exact ⟨⟨⟨rfl, rfl, rfl, rfl⟩, rfl⟩, rfl, rfl, rfl, rfl, by decide +kernel, rfl, rfl, rfl⟩

/-- LOAD, UNLOAD and each WRITE_OFF reported by a pusher, applied and refused, a trace of the strip waiting; the MAGAZINE
LOADED that an elevator waits for; a failing PULL_RESULT of this bonder, and the HOLD_OFF of its last hold. -/
theorem witness_NotesOfAFrameAreAppliedInOrder_strips :
    let t : Table := { table underTest with railOut := some good, railIn := some fresh, holds := 1, magInput := ⟨1, [2, 1]⟩,
                                            magGood := ⟨1, [1, 0]⟩ }
    let u := { t with railIn := none }
    let fail := Note.pullResult ⟨0, 1, 1, 0, 0, 0, 0, 5, 1, 1⟩
    (∀ n ∈ [Note.unload 1 0 1, .unload 1 1 1, .writeOff 2 0 1, .writeOff 1 1 0xFF, .writeOff 1 2 0xFF, .writeOff 9 2 0xFF, .load 0 2,
        .magazine 0 1 [1, 1], fail, .holdOff 0], ∀ x ∈ [t, u], Reaches x n (own x n fun s =>
      rcu (fun r => { r with ring := [traced false] }) (tmu (fun m => { m with
        pushIn := ⟨.reporting n, some ⟨1, .input, 0⟩⟩, pushOut := ⟨.reporting n, some ⟨1, .good, 1⟩⟩
        elInput := ⟨.seeking, some 1, none, [], 0, true, 2, 10⟩ }) s))) ∧
    (∀ n ∈ [Note.unload 1 0 1, .writeOff 2 0 1, .writeOff 1 1 0xFF, .writeOff 1 2 0xFF, .magazine 0 1 [1, 1], fail, .holdOff 0],
      accepts t n = true) ∧ accepts u (.load 1 2) = true ∧
    (∀ n ∈ [Note.unload 1 1 1, .writeOff 9 2 0xFF, .load 0 2], accepts t n = false) ∧
    (∀ c < 4, ({ t with holds := 0 } : Table).hold 0 c = false) ∧ t.hold 0 0 = true ∧
    (own t fail id).ocu.alarms = [] := by
  refine ⟨?_, by decide +kernel, by decide +kernel, by decide +kernel, by decide, by decide, rfl⟩
  intro n h x k
  simp only [List.mem_cons, List.not_mem_nil, or_false] at h k
  rcases h with rfl | rfl | rfl | rfl | rfl | rfl | rfl | rfl | rfl | rfl <;> rcases k with rfl | rfl <;>
    exact ⟨⟨⟨rfl, rfl, rfl, rfl⟩, rfl⟩, rfl, rfl, rfl, rfl, by decide +kernel, rfl, rfl, rfl⟩

/-- A RESYNC station 0 hearing station 1, or a JOINING one that gathers its first table, with its copy marks. -/
def copying (st : StState) (marks : List Bool) : State :=
  let s := hearing (su (fun u => { u with joinWatch := if st = .joining then some 0 else none }) (slot 1 (inState st (table fresh))))
  { s with ctu := { s.ctu with copied := marks, watch := some 0 } }

/-- All sections copied but one. -/
def allBut (n : Nat) : List Bool := (List.replicate 14 true).set n false

/-- An ACTIVE frame of station 1 in round 0 with a body of section 1, and notes. -/
def carries (body : List Byte) (ns : List Note) : Frame := { frame 1 .active 0 ns with sec := some (1, body) }

/-- The last section taken, one not readable, one already copied; a note whose sections are all copied, one applied with section
0 not copied, an INDEX_DONE with shift, one with a section not copied; the unreadable frame. -/
theorem witness_CopierTakesSectionsAndKeepsThemByNotes :
    let b := (table fresh).body 1
    (∀ st ∈ [StState.resync, .joining], ∀ n ∈ [1, 2],
      (copying st (allBut n)).HearsInPlace (carries b []).chars (carries b []) ∧
      (copying st (allBut n)).HearsInPlace (carries [] []).chars (carries [] []) ∧
      ((copying st (allBut n)).lnk.st = .resync ∨ (copying st (allBut n)).gathering = true)) ∧
    (takeBody plan 1 b (table fresh)).isSome = true ∧ takeBody plan 1 [] (table fresh) = none ∧
    (carries b []).flags.noTable = false ∧ (carries b []).planId = plan.id ∧
    (∀ n ∈ [Note.claim 1 0 4, .indexDone 1 1, .release 0 0 0 0, .release 0 0 5 0, .writeOff 1 0 9],
      ∀ m ∈ [0, 3, 13], (copying .resync (allBut m)).HearsInPlace (carries b [n]).chars (carries b [n])) ∧
    (∀ k ∈ Note.reads plan (.indexDone 1 1), (allBut 1)[k]? = some true) ∧
    (judge plan ⟨1, .active,
        { HFlags.clear with feed := true }⟩ { table fresh with phase := .fault } (.indexDone 1 1)).isSome = true ∧
    (copying .resync (allBut 3)).Ready ∧ (copying .resync (allBut 3)).lnk.slot ≠ 0 ∧
    (copying .joining (allBut 3)).su.joinWatch ≠ some 7 := by
  refine ⟨?_, by decide +kernel, by decide +kernel, rfl, rfl, ?_, by decide, by decide, ⟨⟨rfl, rfl, rfl, rfl⟩, rfl⟩,
      by decide, by decide⟩
  · have c : checkFrame (carries ((table fresh).body 1) []).chars = some (carries ((table fresh).body 1) []) := by decide +kernel
    have d : checkFrame (carries [] []).chars = some (carries [] []) := by decide +kernel
    intro st h n h2
    simp only [List.mem_cons, List.not_mem_nil, or_false] at h h2
    rcases h with rfl | rfl <;> rcases h2 with rfl | rfl <;>
      exact ⟨⟨⟨⟨rfl, rfl, rfl, rfl⟩, rfl⟩, rfl, by decide, c, (by decide : (1 : Nat) ≠ 0), rfl, rfl⟩,
        ⟨⟨⟨rfl, rfl, rfl, rfl⟩, rfl⟩, rfl, by decide, d, (by decide : (1 : Nat) ≠ 0), rfl, rfl⟩, by decide⟩
  · intro n h m h2
    have c : checkFrame (carries ((table fresh).body 1) [n]).chars = some (carries ((table fresh).body 1) [n]) := by
      simp only [List.mem_cons, List.not_mem_nil, or_false] at h
      rcases h with rfl | rfl | rfl | rfl | rfl <;> decide +kernel
    simp only [List.mem_cons, List.not_mem_nil, or_false] at h2
    rcases h2 with rfl | rfl | rfl <;>
      exact ⟨⟨⟨rfl, rfl, rfl, rfl⟩, rfl⟩, rfl, by decide, c, (by decide : (1 : Nat) ≠ 0), rfl, rfl⟩

/-- The last section makes a RESYNC station ACTIVE, and an INDEX_DONE with shift moves the marks. -/
theorem test_copier :
    leads (exec (.readableFrameEnd (carries ((table fresh).body 1) []).chars lv) (copying .resync (allBut 1)))
      (fun t => t.lnk.st = .active ∧ t.ctu.watch = none) ∧ shiftMarks plan (allBut 1) = (allBut 3).set 4 false :=
  ⟨⟨_, rfl, by decide +kernel, by decide +kernel⟩, by decide⟩

/-- What station k sends, feeding and unloading, ACTIVE. -/
def from_ (k : Nat) : NoteCtx := ⟨k, .active, { HFlags.clear with feed := true, unload := true }⟩

/-- In a copier a note with an undefined code is refused and counted, and the marks of the half it names stand (R179); one with
defined codes that reads a section not copied is not counted, and its half is copied no longer (R53). -/
theorem test_undefined_code_in_a_copier :
    leads (exec (.readableFrameEnd (carries ((table fresh).body 1) [.release 0 0 5 0]).chars lv) (copying .resync (allBut 3)))
      (fun t => t.ctu.refused = 1 ∧ t.ctu.copied = allBut 3) ∧
    leads (exec (.readableFrameEnd (carries ((table fresh).body 1) [.claim 1 0 5]).chars lv) (copying .resync (allBut 3)))
      (fun t => t.ctu.refused = 1 ∧ t.ctu.copied = allBut 3) ∧
    leads (exec (.readableFrameEnd (carries ((table fresh).body 1) [.claim 1 0 4]).chars lv) (copying .resync (allBut 4)))
      (fun t => t.ctu.refused = 0 ∧ t.ctu.copied = (allBut 4).set 3 false) :=
  ⟨⟨_, rfl, by decide +kernel, by decide +kernel⟩, ⟨_, rfl, by decide +kernel, by decide +kernel⟩,
    ⟨_, rfl, by decide +kernel, by decide +kernel⟩⟩

/-- An own untestable PULL_RESULT that the copier neither applies nor refuses leaves the untestable list, and a list of four
entries takes no fifth (R110, R117). -/
theorem test_untestable_list :
    (copierNote plan (from_ 0) (table fresh) (untestableNote 0 1 1)
      (wsc (fun w => { w with untestable := [(1, 1), (1, 0)] }) (copying .resync (allBut 1)))).wsc.untestable = [(1, 0)] ∧
    (closeUntestable active (0, 1, 1)).wsc.untestable = [(1, 1)] ∧ closeUntestable crowded (0, 1, 1) = crowded := by
  decide +kernel

/-- A half that shows unit 1 claimed by station 0, which holds unit 0 and not unit 1 (R58). -/
def shownHalf : Table := table (strip (unit pending .none none) (unit ⟨.claimed, some 0, 1⟩ .pending none))
def holding : State := wsc (fun w => { w with claims := [⟨0, 0, 0, 1, true⟩] }) (copying .resync ((allBut 1).set 3 false))

/-- The lost task at the cursor, DROP by an earlier loss with its WIRE still out, and claimed again behind it. -/
def twiceLost : State :=
  bsq (fun b => { b with st := .running, work := [⟨0, 0, 0, 1, .drop⟩, ⟨0, 0, 0, 1, .none⟩], cursor := some started,
                         out := some ⟨.wire 0 0 1 2 3 4 true, 3, 100⟩, nextTag := 4, enabled := true }) holding

theorem witness_CopierTakesSectionsAndKeepsThemByNotes_claims :
    let f := carries (shownHalf.body 1) []
    (∀ s ∈ [holding, twiceLost], s.HearsInPlace f.chars f ∧ s.lnk.st = .resync ∧
      plan.seated s.su.straps = some ⟨0, 0, true, false, 0⟩ ∧
      s.ctu.copied[1]? = some false ∧ s.ctu.copied.set 1 true ≠ List.replicate 14 true) ∧
    takeBody plan 1 (shownHalf.body 1) (table fresh) = some shownHalf ∧
    (∀ x ∈ shownHalf.win.filterMap id, ∀ e ∈ x.units, e.groups.length ≤ 4) := by
  have c : checkFrame (carries (shownHalf.body 1) []).chars = some (carries (shownHalf.body 1) []) := by decide +kernel
  refine ⟨?_, by decide +kernel, by decide⟩
  intro s h
  simp only [List.mem_cons, List.not_mem_nil, or_false] at h
  rcases h with rfl | rfl <;>
    exact ⟨⟨⟨⟨rfl, rfl, rfl, rfl⟩, rfl⟩, rfl, by decide, c, by decide, rfl, rfl⟩, rfl, rfl, rfl, by decide⟩

theorem test_claims_of_a_half : leads (exec (.readableFrameEnd (carries (shownHalf.body 1) []).chars lv) holding) fun t =>
    t.wsc.claims = [] ∧ t.lnk.queue = [⟨.release 0 1 0 1, .wsc, false⟩] :=
  ⟨_, rfl, by decide +kernel, by decide +kernel⟩

/-- The entry behind the cursor leaves at once, the one at the cursor stays marked DROP (R104). -/
theorem test_claim_lost_twice : leads (exec (.readableFrameEnd (carries (shownHalf.body 1) []).chars lv) twiceLost) fun t =>
    t.bsq.work = [⟨0, 0, 0, 1, .drop⟩] ∧ t.bsq.cursor = some started ∧ t.wsc.claims = [] :=
  ⟨_, rfl, by decide +kernel, by decide +kernel, by decide +kernel⟩

def claimed : GEntry := ⟨.claimed, some 0, 0⟩
/-- CLAIM of a group by the bond station, and of the test of a bonded unit by the pull station in its window. -/
theorem witness_ClaimTakesEffectExactlyUnderItsConditions : (judge plan (from_ 0) (table fresh) (.claim 0 1 0)).isSome = true ∧
    (judge plan (from_ 1) { table fresh with win := [none, some (strip (unit done .none none) (unit done .pending none))] }
      (.claim 1 1 4)).isSome = true ∧
    judge plan (from_ 0) (table fresh) (.claim 0 2 0) = none := by decide

/-- Unit 1 of W0 with its group claimed, and with its test claimed, by station 0. -/
theorem witness_CompletionSkipAndHoldNotesTakeTheirEffects :
    let g := table (strip (unit pending .none none) (unit claimed .pending none))
    let t := table (strip (unit pending .none none) (unit done .claimed (some 0)))
    (judge plan (from_ 0) g (.done 0 1 0 0)).isSome = true ∧ (judge plan (from_ 0) g (.done 0 1 0 1)).isSome = true ∧
    (judge plan (from_ 0) t (.done 0 1 4 0)).isSome = true ∧ (judge plan (from_ 0) g (.release 0 1 0 2)).isSome = true ∧
    (judge plan (from_ 0) t (.release 0 1 4 0)).isSome = true ∧ (judge plan (from_ 0) g (.skip 0 0)).isSome = true ∧
    (judge plan (from_ 0) { g with holds := 8 } (.holdOff 3)).isSome = true := by decide

theorem witness_IndexNotesTakeTheirEffects :
    let m := { freshTable with phase := .moving, clampSet := 3, index := 65535, railIn := some fresh }
    plan.windows ≤ 6 ∧ (judge plan (from_ 0) freshTable .indexStart).isSome = true ∧
    (judge plan (from_ 1) { m with clampSet := 1 } (.clampOpen 1)).isSome = true ∧
    (judge plan (from_ 0) m (.indexDone 0 1)).isSome = true ∧
    (judge plan (from_ 0) { m with phase := .fault } (.indexDone 65535 0)).isSome = true ∧
    (judge plan (from_ 0) m (.indexFault 0 0)).isSome = true ∧ (judge plan (from_ 0) m (.indexFault 4 0xFF)).isSome = true ∧
    judge plan (from_ 0) m (.indexFault 4 0) = none ∧
    judge plan (from_ 0) m (.indexFault 5 0) = none := by decide

theorem witness_VerdictFollowsForceAndBreakMode :
    let s := working (.hookPull 0 1 1 3) .running testClaim started
    s.su.held = some plan ∧ s.bsq.work = [testClaim] ∧ s.bsq.cursor = some started ∧ testClaim.mark ≠ .drop ∧
    (s.pullsLeft started.base)[started.idx]? = some (0, 0) ∧
        plan.retryLimit ≤ (bsq (fun b => { b with retry := 1 }) s).bsq.retry ∧
    ((List.range plan.groups.length).flatMap fun g => ((List.range (plan.wireCount g)).filter fun i =>
      ((plan.wire? g i).map (·.witness)).getD false).map fun i => (g, i)) = [(0, 0), (0, 1)] ∧ testClaim.group = 4 ∧
    verdictOf (modeCode .neck) 10 10 = Verdict.pass ∧ verdictOf (modeCode .heel) 9 10 = Verdict.failLow := by decide

theorem witness_PullResultTakesEffectExactlyUnderItsConditions :
    let t := { table fresh with win := [none, some (strip (unit done .none none) (unit done .claimed (some 1)))] }
    let u := { table fresh with win := [none, some (strip (unit done .none none) (unit ⟨.failed, some 0, 0⟩ .pending none))] }
    (judge plan (from_ 1) t (.pullResult ⟨1, 1, 1, 0, 1, 0, 0, 9, 1, 1⟩)).isSome = true ∧
    (judge plan (from_ 1) t (.pullResult ⟨1, 1, 1, 0, 1, 0, 0, 10, 1, 0⟩)) = some t ∧
    (judge plan (from_ 1) t (.pullResult ⟨1, 1, 1, 0, 2, 0, 0, 10, 1, 0⟩)) = none ∧
    (judge plan (from_ 1) u (.pullResult ⟨1, 1, 1, 4, 0, 0xFF, 0, 0, 0, 3⟩)).isSome = true := by decide

theorem witness_StripAndMagazineNotesTakeTheirEffects :
    let t := { table fresh with loaded := 65534, magInput := ⟨1, [1, 1]⟩, magGood := ⟨1, [0, 1]⟩, magReject := ⟨0, []⟩ }
    let o := { t with railOut := some (strip (unit done .none none) (unit done .done none)), railIn := some fresh }
    (judge plan (from_ 0) t (.load 1 65535)).isSome = true ∧ judge plan (from_ 0) t (.load 2 65535) = none ∧
    (judge plan (from_ 0) o (.unload 1 0 0)).isSome = true ∧ judge plan (from_ 0) o (.unload 1 1 0) = none ∧
    (judge plan (from_ 0) { o with railOut := some fresh } (.unload 1 1 1)).isSome = true ∧
    (judge plan (from_ 0) t (.magazine 2 0 [])).isSome = true ∧
    (judge plan (from_ 0) t (.magazine 0 0 [0, 1, 2])).isSome = true ∧ judge plan (from_ 0) t (.magazine 2 0 [2]) = none ∧
    (judge plan (from_ 0) t (.magazine 1 1 [0, 1])).isSome = true ∧
    (judge plan (from_ 0) t (.writeOff 65535 0 1)).isSome = true ∧ (judge plan (from_ 0) o (.writeOff 1 1 0xFF)).isSome = true ∧
    (judge plan (from_ 0) o (.writeOff 1 2 0xFF)).isSome = true := by decide +kernel

theorem witness_NotesKeepTheStripCountersBalanced : 1 ≤ plan.windows ∧ plan.windows ≤ 6 ∧ (table fresh).win.length = 6 ∧
    (table fresh).loaded = BitVec.ofNat 32 (table fresh).strips + (table fresh).good + (table fresh).reject + (table fresh).written ∧
    (judge plan (from_ 0) (table fresh) (.claim 0 1 0)).isSome = true := by decide

theorem witness_NotesAndAbsenceKeepTheClaimRules : plan.windows ≤ 6 ∧ (table fresh).win.length = 6 ∧
    (∀ k < 8, (table fresh).claims k ≤ 2) ∧ (judge plan (from_ 0) (table fresh) (.claim 0 1 0)).isSome = true := by decide


/-- The takt timer runs, nothing claimed. -/
def selecting (l : Lnk → Lnk) : State := lnk l (wsc (fun w => { w with takt := .running }) active)

/-- Group 0 of unit 0 is the first task of the bond station; a task stands behind a waiting request; nothing is eligible with
the takt timer stopped; a CLAIM at frame build in ACTIVE and in RESYNC. -/
theorem witness_SelectionTakesTheFirstEligibleTask :
    let s := selecting id
    s.su.held = some plan ∧ plan.seated s.su.straps = some ⟨0, 0, true, false, 0⟩ ∧ s.table = some (table fresh) ∧
    plan.groups.length ≤ 4 ∧ s.firstTask false = some (0, 0) ∧ (∀ q ∈ s.lnk.waiting, q.producer ≠ .wsc) ∧
    (table fresh).win? 0 = some fresh ∧ active.firstTask false = none ∧ s.recheck [] 0 0 0 = true ∧
    s.recheck [(0, 1, 0)] 0 0 0 = true ∧ s.recheck [(0, 1, 0), (0, 0, 0)] 0 0 0 = false ∧
    (selecting fun l => { l with queue := full.lnk.queue, waiting := full.lnk.waiting }).lnk.waiting ≠ [] := by
  decide

/-- The conditions of the first task spelt out: no claim of another lies near, every lower group is done. -/
theorem witness_SelectionTakesTheFirstEligibleTask_conditions :
    let t := table fresh
    (∀ (v : Nat) (e : UEntry), fresh.units[v]? = some e → ¬((∃ y ∈ e.groups, y.st = .claimed ∧ y.claimer ≠ some 0) ∨
      (e.test = .claimed ∧ e.tester ≠ some 0))) ∧
    t.phase = .opened ∧ fresh.units[0]? = some (unit pending .none none) ∧ t.holds.getLsbD 0 = false ∧ 0 ∉ plan.tests ∧
    ∀ v < plan.rows * plan.cols, ¬(plan.col v < plan.col 0 ∨ (plan.col v = plan.col 0 ∧ plan.row v < plan.row 0)) := by
  refine ⟨fun v e h => ?_, rfl, rfl, by decide, by decide, by decide⟩
  have : ∀ e ∈ fresh.units, ¬((∃ y ∈ e.groups, y.st = .claimed ∧ y.claimer ≠ some 0) ∨
    (e.test = .claimed ∧ e.tester ≠ some 0)) := by decide
  exact this e (List.mem_of_getElem? h)

/-- Each event of R66 in an ACTIVE station. -/
theorem witness_SelectionTakesTheFirstEligibleTask_events :
    (selecting id).Ready ∧ (∃ t,
        exec .taktExpiry (wsc (fun w => { w with claims := [⟨0, 0, 0, 1, false⟩] }) (selecting id)) = .next t ∧
      t.lnk.st = .active ∧ t.wsc.claims = []) ∧
    (∃ t, exec .keyResume (key 3 (bsq (fun b => { b with st := .paused }) (selecting id))) = .next t ∧ t.bsq.st = .idle ∧
      t.wsc.claims = [⟨0, 0, 0, 1, false⟩, ⟨0, 1, 0, 1, false⟩]) ∧
    (hearing (slot 1 (selecting id))).handlesFrame (joins 1 []).chars = true :=
  ⟨⟨⟨rfl, rfl, rfl, rfl⟩, rfl⟩, ⟨_, rfl, rfl, rfl⟩, ⟨_, rfl, rfl, rfl⟩, by decide +kernel⟩

/-- A feed station whose own frame comes back whole, with a vote record; one that hears station 1 in its place, and station 1
seven positions and 524,280 positions ahead; a silent slot and the station's own fragment. -/
def voting : State :=
  ocu (fun o => { o with magIn := true }) (wsc (fun w => { w with voteRec := some ⟨false, [0]⟩ })
    (su (fun u => { u with straps := ⟨0, .bond, true, false, false⟩ }) active))

theorem witness_VoteRecordAndIndexStartFollowTheRound :
    let f := frame 0 .active 0 []
    let g := frame 1 .active 0 []
    (sending false).Ready ∧ (lnk (fun l => { l with line := .sending f.chars }) voting).Ready ∧ checkFrame f.chars = some f ∧
    f.sender = voting.stn ∧ f.sender = voting.lnk.slot ∧ f.round = voting.lnk.round ∧ voting.actsFeed = true ∧
    (hearing (slot 1 voting)).Ready ∧ checkFrame g.chars = some g ∧ g.sender ≠ voting.stn ∧
    (hearing (slot 7 (lnk (fun l => { l with round := 65535 }) voting))).Ready ∧
    (0 * 8 + 1 + 524288 - (65535 * 8 + 7)) % 524288 = 2 ∧ (0 + 8 - 7) % 8 < 2 ∧
    (hearing (slot 2 voting)).Ready ∧ (0 * 8 + 1 + 524288 - (0 * 8 + 2)) % 524288 = 524287 ∧
    (hearing (slot 1 (lnk (fun l => { l with round := 1 }) voting))).Ready ∧
        (0 * 8 + 1 + 524288 - (1 * 8 + 1)) % 524288 = 524280 ∧
    (slot 7 voting).Ready ∧ (slot 7 voting).lnk.line = .idle ∧ (lnk (fun l => { l with line := .fragment }) voting).Ready ∧
    voting.table = some (table fresh) ∧ voting.su.held = some plan := by
  refine ⟨⟨⟨rfl, rfl, rfl, rfl⟩, rfl⟩, ⟨⟨rfl, rfl, rfl, rfl⟩, rfl⟩, by decide +kernel, rfl, rfl, rfl, rfl, ⟨⟨rfl, rfl, rfl,
      rfl⟩, rfl⟩, by decide +kernel,
    by decide, ⟨⟨rfl, rfl, rfl, rfl⟩, rfl⟩, rfl, by decide, ⟨⟨rfl, rfl, rfl, rfl⟩, rfl⟩, rfl, ⟨⟨rfl, rfl, rfl, rfl⟩, rfl⟩, rfl,
    ⟨⟨rfl, rfl, rfl, rfl⟩, rfl⟩, rfl, ⟨⟨rfl, rfl, rfl, rfl⟩, rfl⟩, rfl, rfl⟩

/-- R77: a correction past the own slot ends the record; the vote is yes with the takt expired and the head parked. -/
theorem test_vote : leads (exec (.readableFrameEnd (frame 1 .active 0 []).chars lv) (hearing (slot 1 (lnk (fun l => { l with round := 1 }) voting))))
      (fun t => t.wsc.voteRec = none) ∧
    (bsq (fun b => { b with head := .parked }) (wsc (fun w => { w with takt := .expired }) active)).voteNow = true ∧
    active.voteNow = false := ⟨⟨_, rfl, by decide +kernel⟩, by decide, by decide⟩

/-- The takt timer running, the sequencer with some work. -/
def expiring (st : BState) (w : List WorkEntry) (c : Option Cursor) (o : Option Outstanding) : State :=
  wsc (fun k => { k with takt := .running, clampWait := true })
    (bsq (fun b => { b with st := st, work := w, cursor := c, out := o, enabled := true }) active)

theorem witness_TaktExpiryAndClampWaitExpiry :
    (∀ st ∈ [BState.halted, .spoolOut], (expiring st [claim] (some started) none).Ready) ∧
    (expiring .running [claim, { claim with unit := 0 }] (some started) (some ⟨firstWire, 3, 100⟩)).Ready ∧
    (expiring .running [claim] none (some ⟨.park, 3, 100⟩)).Ready ∧
    (bsq (fun b => { b with head := .atWork }) (expiring .idle [] none none)).Ready ∧
    (bsq (fun b => { b with head := .atWork }) (expiring .idle [] none none)).headFree = true ∧
    active.wsc.takt ≠ .running ∧ active.wsc.clampWait = false := by
  refine ⟨?_, ⟨⟨rfl, rfl, rfl, rfl⟩, rfl⟩, ⟨⟨rfl, rfl, rfl, rfl⟩, rfl⟩, ⟨⟨rfl, rfl, rfl, rfl⟩, rfl⟩, rfl, by decide, rfl⟩
  intro st h
  simp only [List.mem_cons, List.not_mem_nil, or_false] at h
  rcases h with rfl | rfl <;> exact ⟨⟨rfl, rfl, rfl, rfl⟩, rfl⟩

/-- R100: a sequencer whose one claim waits behind a PARK is IDLE at once when it is released. -/
theorem test_idle_behind_park : leads (exec .taktExpiry (expiring .running [claim] none (some ⟨.park, 3, 100⟩))) fun t =>
    t.bsq.st = .idle ∧ t.bsq.work = [] ∧ t.bsq.out.isSome = true := ⟨_, rfl, rfl, rfl, rfl⟩

/-- A wire under way: the first and the last of the group, and one at the retry limit. -/
theorem witness_WireAnswersMoveTheCursorOrRetry :
    let z := HeadCmd.wire 0 1 5 6 7 8 true
    (∀ m, ∀ st ∈ [BState.running, .finishing], (working firstWire st { claim with mark := m } started).Ready ∧
      (working z st { claim with mark := m } ⟨1, 0, true, false⟩).Ready ∧
      (bsq (fun b => { b with work := [{ claim with mark := m }, { claim with unit := 0 }] })
        (working firstWire st claim started)).Ready) ∧
    active.su.held = some plan ∧ plan.wire? 0 0 = some ⟨1, 2, 3, 4, true⟩ ∧
    plan.wire? 0 1 = some ⟨5, 6, 7, 8, true⟩ ∧ plan.wire? 0 2 = none ∧ (0 : Nat) < plan.retryLimit ∧
    (bsq (fun b => { b with retry := 1 }) (working firstWire .running claim started)).Ready ∧ plan.retryLimit ≤ 1 ∧
    active.table = some (table fresh) ∧ (table fresh).win? 0 = some fresh ∧ fresh.id = claim.strip ∧ fresh.sampled = true ∧
    claim.unit ∈ plan.tests ∧ (working firstWire .running claim started).lnk.st = .active := by
  refine ⟨?_, rfl, rfl, rfl, rfl, by decide, ⟨⟨rfl, rfl, rfl, rfl⟩, rfl⟩, by decide, rfl, rfl, rfl, rfl, by decide, rfl⟩
  intro m st h
  simp only [List.mem_cons, List.not_mem_nil, or_false] at h
  rcases h with rfl | rfl <;> exact ⟨⟨⟨rfl, rfl, rfl, rfl⟩, rfl⟩, ⟨⟨rfl, rfl, rfl, rfl⟩, rfl⟩, ⟨⟨rfl, rfl, rfl, rfl⟩, rfl⟩⟩

theorem witness_ParkUnparkRethreadAndPullAnswers :
    let none_ := fun (cmd : HeadCmd) (st : BState) =>
      bsq (fun b => { b with work := [], cursor := none, st := st }) (working cmd st claim started)
    (∀ st ∈ [BState.idle, .finishing, .halted], (none_ .park st).Ready) ∧
    (∀ st ∈ [BState.halted, .spoolOut], (none_ .rethread st).Ready ∧ (working .rethread st claim started).Ready) ∧
    (working .park .halted testClaim started).Ready ∧
    (∀ m, ∀ st ∈ [BState.running, .finishing], (working .unpark st { claim with mark := m } ⟨0, 0, false, false⟩).Ready ∧
      (working (.hookPull 0 1 1 3) st { testClaim with mark := m } started).Ready ∧
      (working (.hookPull 0 1 1 3) st { testClaim with mark := m } ⟨1, 0, true, false⟩).Ready) ∧
    (let s := working (.hookPull 0 1 1 3) .running testClaim started
     (s.pullsLeft 0)[0]? = some (0, 0) ∧ (s.pullsLeft 0)[1]? = some (0, 1) ∧ (s.pullsLeft 0)[2]? = none ∧
     s.bsq.retry < plan.retryLimit ∧ s.lnk.queue.length < 23) := by
  refine ⟨?_, ?_, ⟨⟨rfl, rfl, rfl, rfl⟩, rfl⟩, ?_, rfl, rfl, rfl, by decide, by decide⟩
  · intro st h
    simp only [List.mem_cons, List.not_mem_nil, or_false] at h
    rcases h with rfl | rfl | rfl <;> exact ⟨⟨rfl, rfl, rfl, rfl⟩, rfl⟩
  · intro st h
    simp only [List.mem_cons, List.not_mem_nil, or_false] at h
    rcases h with rfl | rfl <;> exact ⟨⟨⟨rfl, rfl, rfl, rfl⟩, rfl⟩, ⟨⟨rfl, rfl, rfl, rfl⟩, rfl⟩⟩
  · intro m st h
    simp only [List.mem_cons, List.not_mem_nil, or_false] at h
    rcases h with rfl | rfl <;> exact ⟨⟨⟨rfl, rfl, rfl, rfl⟩, rfl⟩, ⟨⟨rfl, rfl, rfl, rfl⟩, rfl⟩, ⟨⟨rfl, rfl, rfl, rfl⟩, rfl⟩⟩

/-- R105, R142: when the command under way at a stop ends, a claim handed over since leaves the own claim list with its
reservation, and the head parks. -/
theorem test_stop_ends :
    let s := rcu (fun r => { r with resv := [⟨1, 1, 0, 2⟩] }) (wsc (fun w => { w with claims := [⟨0, 1, 0, 1, true⟩] })
      (bsq (fun b => { b with stop := true, head := .atWork }) (working firstWire .running claim started)))
    leads (exec (.headCompletion 3 (.done ⟨1, 2, 3, 4⟩)) s) fun t => t.bsq.work = [] ∧ t.bsq.stop = false ∧ t.bsq.st = .idle ∧
      t.wsc.claims = [] ∧ t.rcu.resv = [] ∧ (t.bsq.out.map (·.cmd)) = some .park :=
  ⟨_, rfl, by decide +kernel, by decide +kernel, by decide +kernel, by decide +kernel, by decide +kernel, by decide +kernel⟩

theorem witness_FaultsHaltTheHead :
    (∀ st ∈ [BState.idle, .running, .paused, .halted, .spoolOut, .finishing], (working firstWire st claim started).Ready) ∧
    (∀ e ∈ (working firstWire .running claim started).bsq.work, e.mark = .none) ∧
    (∀ st ∈ [BState.idle, .paused, .halted, .spoolOut], (bsq (fun b => { b with st := st, late := some 3 }) active).Ready) ∧
    (pullStation active).Ready ∧ (pullStation active).su.straps.role = .pull ∧
    allowed .park .nsop = false ∧ allowed firstWire .wireOut = true ∧
    (∀ m, (working firstWire .running { claim with mark := m } started).Ready ∧
      (working .unpark .running { claim with mark := m } ⟨0, 0, false, false⟩).Ready) ∧
    (bsq (fun b => { b with st := .finishing }) active).Ready ∧ (working .rethread .halted claim started).Ready := by
  refine ⟨?_, by decide, ?_, ⟨⟨rfl, rfl, rfl, rfl⟩, rfl⟩, rfl, rfl, rfl,
    fun m => ⟨⟨⟨rfl, rfl, rfl, rfl⟩, rfl⟩, ⟨⟨rfl, rfl, rfl, rfl⟩, rfl⟩⟩, ⟨⟨rfl, rfl, rfl, rfl⟩, rfl⟩, ⟨⟨rfl, rfl, rfl, rfl⟩, rfl⟩⟩ <;>
    intro st h <;> simp only [List.mem_cons, List.not_mem_nil, or_false] at h
  · rcases h with rfl | rfl | rfl | rfl | rfl | rfl <;> exact ⟨⟨rfl, rfl, rfl, rfl⟩, rfl⟩
  · rcases h with rfl | rfl | rfl | rfl <;> exact ⟨⟨rfl, rfl, rfl, rfl⟩, rfl⟩

/-- NO_BALL in answer to an UNPARK halts the head, and the claim to be released is released. -/
theorem test_no_ball_halts :
    leads (exec (.headCompletion 3 .noBall) (working .unpark .running { claim with mark := .release } ⟨0, 0, false, false⟩)) fun t =>
      t.bsq.st = .halted ∧ t.bsq.work = [] ∧ t.lnk.queue = [⟨.release 0 1 0 0, .wsc, false⟩] :=
  ⟨_, rfl, by decide +kernel, by decide +kernel, by decide +kernel⟩

/-- A table that holds a class against station 0. -/
def held (n : BitVec 32) : State := inState .active { table fresh with holds := n }

theorem witness_PauseResumeHoldReleaseAndSkipKeys :
    (key 2 active).Ready ∧ (key 2 (working firstWire .running claim started)).Ready ∧
    (key 3 (bsq (fun b => { b with st := .paused }) active)).Ready ∧
    (key 6 (held 1)).Ready ∧ (held 1).heldClasses = [0] ∧ (held 1).ocu.alarms = [] ∧
    (key 6 (ocu (fun o => { o with alarms := [⟨.qualityHold, .acked, 0, 0⟩] }) (held 9))).Ready ∧ (key 6 active).Ready ∧
    (let s := key 7 (ocu (fun o => { o with mapCursor := some (0, 1) }) active)
     s.Ready ∧ plan.seated s.su.straps = some ⟨0, 0, true, false, 0⟩ ∧ s.table = some (table fresh) ∧
     (table fresh).win? 0 = some fresh ∧ fresh.units[1]? = some (unit pending .pending none) ∧ s.wsc.skips = []) ∧
    (key 7 (wsc (fun k => { k with claims := [⟨0, 1, 0, 1, false⟩] }) (ocu (fun o => { o with mapCursor := some (0, 1) }) active))).Ready ∧
    (let s := key 7 (ocu (fun o => { o with mapCursor := some (0, 1) }) skipping)
     s.Ready ∧ s.lnk.st = .resync ∧ s.table = some (table fresh) ∧ s.wsc.skips = []) :=
  ⟨⟨⟨rfl, rfl, rfl, rfl⟩, rfl⟩, ⟨⟨rfl, rfl, rfl, rfl⟩, rfl⟩, ⟨⟨rfl, rfl, rfl, rfl⟩, rfl⟩, ⟨⟨rfl, rfl, rfl, rfl⟩, rfl⟩, rfl,
    rfl, ⟨⟨rfl, rfl, rfl, rfl⟩, rfl⟩, ⟨⟨rfl, rfl, rfl, rfl⟩, rfl⟩, ⟨⟨⟨rfl, rfl, rfl, rfl⟩, rfl⟩, rfl, rfl, rfl, rfl, rfl⟩,
        ⟨⟨rfl, rfl, rfl, rfl⟩, rfl⟩, ⟨⟨rfl, rfl, rfl, rfl⟩, rfl⟩, rfl, rfl, rfl⟩

/-- A SKIP whose request has left the list ends unsent: at an INDEX_START applied, and at the look of the scheduler in RESYNC
(R71, assumption 64). One in flight stays. -/
theorem test_stray_skip_ends :
    ((tellApplied plan false 1 (table fresh) (table fresh) .indexStart skipping).lnk.queue.map (·.note) = [.release 0 1 0 0]) ∧
    (dropSkips (lnk (fun l => { l with queue := [⟨.skip 0 1, .wsc, true⟩] }) active)).lnk.queue = [⟨.skip 0 1, .wsc, true⟩] ∧
    leads (exec .keySkip (key 7 (ocu (fun o => { o with mapCursor := some (0, 1) }) skipping))) (fun t =>
      t.lnk.queue.map (·.note) = [.release 0 1 0 0] ∧ t.wsc.skips = [⟨0, 1, 1, false⟩]) :=
  ⟨by decide +kernel, by decide +kernel, _, rfl, by decide +kernel, by decide +kernel⟩

/-- R71: a SKIP not sent before the index of its strip ends unsent, also where the table shows the index by its phase, or by
another strip in the window, only. -/
theorem test_skip_ends_with_its_strip :
    ∀ x ∈ [{ table fresh with phase := .moving }, table { fresh with id := 2 }],
      leads (exec (.readableFrameEnd (joins 1 []).chars lv) (lnk (fun l => { l with
          line := .hearing, slot := 1, queue := [⟨.skip 0 1, .wsc, false⟩, ⟨.answer 1 2 3, .rcu, false⟩] })
        (wsc (fun w => { w with skips := [⟨0, 1, 1, true⟩] }) (inState .resync x)))) fun t =>
      t.wsc.skips = [] ∧ (t.lnk.queue.map (·.note)) = [.answer 1 2 3] := by
  intro x h
  simp only [List.mem_cons, List.not_mem_nil, or_false] at h
  rcases h with rfl | rfl <;> exact ⟨_, rfl, by decide +kernel, by decide +kernel⟩

/-- A feed station whose index has faulted, with MAG_IN_EMPTY standing. -/
def jammed (b : BeamSt) (c : ClampSt) : State :=
  ocu (fun o => { o with magIn := true }) (tmu (fun t => { t with beam := b, clamp := c, duty := true })
    (su (fun u => { u with straps := ⟨0, .bond, true, false, false⟩ }) (inState .active { table fresh with phase := .fault, index := 65535 })))

/-- HALTED with the index and the clamp in FAULT, with the clamp's duty and without. -/
def allThree (duty : Bool) : State :=
  bsq (fun b => { b with st := .halted, enabled := true }) (tmu (fun t => { t with duty := duty }) (jammed .home .fault))

/-- One CLEAR sends RETHREAD_CHECK, closes the clamp on duty, and recovers the index. -/
theorem test_clear_all_three :
    leads (exec (.keyClear lv) (key 4 (allThree true))) (fun t => t.bsq.out.isSome = true ∧ t.tmu.clamp = .closing ∧
      t.lnk.queue = [⟨.indexDone 65535 0, .wsc, false⟩]) ∧
    leads (exec (.keyClear lv) (key 4 (allThree false))) (fun t => t.bsq.out.isSome = true ∧ t.tmu.clamp = .fault) :=
  ⟨⟨_, rfl, rfl, rfl, rfl⟩, ⟨_, rfl, rfl, rfl⟩⟩

theorem witness_ClearAndSpoolKeys :
    (∀ st ∈ [BState.halted, .spoolOut], (key 4 (bsq (fun b => { b with st := st, enabled := true }) active)).Ready ∧
      (key 5 (bsq (fun b => { b with st := st, enabled := true }) active)).Ready ∧
      (bsq (fun b => { b with st := st, enabled := true }) active).headFree = true) ∧
    (key 4 (jammed .home .opened)).Ready ∧ (jammed .home .opened).actsFeed = true ∧
    (key 4 (jammed .moving .fault)).Ready ∧ (jammed .moving .fault).tmu.duty = true ∧
    (key 4 (tmu (fun t => { t with clamp := .fault, duty := true }) (inState .active { table fresh with phase := .moving }))).Ready ∧
    (key 4 (allThree true)).Ready ∧ (key 4 (allThree false)).Ready ∧ (allThree true).headFree = true ∧ (key 4 listen).Ready := by
  refine ⟨?_, ⟨⟨rfl, rfl, rfl, rfl⟩, rfl⟩, rfl, ⟨⟨rfl, rfl, rfl, rfl⟩, rfl⟩, rfl, ⟨⟨rfl, rfl, rfl, rfl⟩, rfl⟩,
    ⟨⟨rfl, rfl, rfl, rfl⟩, rfl⟩, ⟨⟨rfl, rfl, rfl, rfl⟩, rfl⟩, rfl, ⟨⟨rfl, rfl, rfl, rfl⟩, rfl⟩⟩
  intro st h
  simp only [List.mem_cons, List.not_mem_nil, or_false] at h
  rcases h with rfl | rfl <;> exact ⟨⟨⟨rfl, rfl, rfl, rfl⟩, rfl⟩, ⟨⟨rfl, rfl, rfl, rfl⟩, rfl⟩, rfl⟩

/-- n keys waiting. -/
def keys (n : Nat) (s : State) : State := ocu (fun o => { o with keyQ := List.replicate n 1 }) s

theorem witness_KeyPressArrowAndMessageKeys :
    (keys 7 active).Ready ∧ (keys 7 active).ocu.keyQ.length < 8 ∧ (keys 8 active).Ready ∧ 8 ≤ (keys 8 active).ocu.keyQ.length ∧
    (1 ≤ (16 : Byte).toNat ∧ (16 : Byte).toNat ≤ 16) ∧ ¬(1 ≤ (17 : Byte).toNat ∧ (17 : Byte).toNat ≤ 16) ∧
    State.reset.Settled ∧ State.reset.su.run ≠ .running ∧
    (∀ k ∈ [(0x09 : Byte), 0x0A, 0x0B, 0x0C], (key k (ocu (fun o => { o with mapCursor := some (0, 1) }) active)).Ready) ∧
    (∀ d, (key (arrowCode d) active).Ready ∧ active.ocu.mapCursor = none) ∧
    (key 0x0F active).Ready ∧ (key 0x10 (ocu (fun o => { o with viewTop := 24 }) active)).Ready ∧ (key 0x08 active).Ready := by
  refine ⟨⟨⟨rfl, rfl, rfl, rfl⟩, rfl⟩, by decide, ⟨⟨rfl, rfl, rfl, rfl⟩, rfl⟩, by decide, by decide, by decide, ⟨rfl, rfl,
      rfl, rfl⟩, by decide, fun k h => ⟨⟨rfl, rfl, rfl, rfl⟩, rfl⟩,
    fun d => ⟨⟨⟨rfl, rfl, rfl, rfl⟩, rfl⟩, rfl⟩, ⟨⟨rfl, rfl, rfl, rfl⟩, rfl⟩, ⟨⟨rfl, rfl, rfl, rfl⟩, rfl⟩, ⟨⟨rfl, rfl, rfl,
        rfl⟩, rfl⟩⟩

/-- n alarms, all in one state. -/
def alarms (l : List AlarmEntry) : State := ocu (fun o => { o with alarms := l }) active

theorem witness_AlarmsAreRaisedSettledAndAcknowledged :
    (∀ st, (alarms [⟨.resync, st, 0, 255⟩]).ocu.alarms = [] ++ ⟨.resync, st, 0, 255⟩ :: []) ∧
    (∀ e ∈ (alarms (List.replicate 7 ⟨.planInvalid, .raised, 0, 0⟩)).ocu.alarms, e.code ≠ .resync) ∧
    (alarms (List.replicate 7 ⟨.planInvalid, .raised, 0, 0⟩)).ocu.alarms.length < 8 ∧
    (∀ st, 8 ≤ (alarms (List.replicate 8 ⟨.planInvalid, st, 0, 0⟩)).ocu.alarms.length) ∧
    (∀ e ∈ List.replicate 8 (⟨.planInvalid, .raised, 0, 0⟩ : AlarmEntry), e.st ≠ .acked) :=
  ⟨fun _ => rfl, by decide, by decide, fun _ => by simp [alarms, ocu], by decide⟩

theorem witness_AlarmsAreRaisedSettledAndAcknowledged_end :
    (∀ st, (alarms [⟨.planInvalid, .acked, 0, 0⟩, ⟨.resync, st, 0, 255⟩]).ocu.alarms =
      [⟨.planInvalid, .acked, 0, 0⟩] ++ ⟨.resync, st, 0, 255⟩ :: []) ∧
    (∀ b ∈ [(⟨.planInvalid, .acked, 0, 0⟩ : AlarmEntry)], b.code ≠ .resync ∧ b.st = .acked) ∧
    (∀ e ∈ active.ocu.alarms, e.code ≠ .resync) ∧
    (∀ st, (key 1 (alarms [⟨.planInvalid, .acked, 0, 0⟩, ⟨.resync, st, 0, 255⟩])).Ready) ∧ (key 1 active).Ready :=
  ⟨fun _ => rfl, by decide, by decide, fun _ => ⟨⟨rfl, rfl, rfl, rfl⟩, rfl⟩, ⟨⟨rfl, rfl, rfl, rfl⟩, rfl⟩⟩

/-- The interpreter at a line and a column, with bytes waiting. -/
def at_ (line col : Nat) (f : Ocu → Ocu) (l : List Byte) : State := text l (ocu (fun o => f { o with line := line, col := col }) active)

theorem witness_InterpreterActsOnEveryByte :
    (at_ 0 63 id [0x20]).Ready ∧ (at_ 31 64 id [0x7E]).Ready ∧ (at_ 31 0 (fun o => { o with fullMark := true }) [0x7E]).Ready ∧
    (at_ 31 63 (fun o => { o with scroll := false }) [0x7E, 0x03]).Ready ∧ (at_ 30 0 id [0x03]).Ready ∧
    (at_ 31 0 (fun o => { o with fullMark := true }) [0x03]).Ready ∧ (at_ 0 63 id [0x20]).ocu.colPending = false ∧
    0x20 ≤ (0x20 : Byte).toNat ∧ (0x7E : Byte).toNat ≤ 0x7E := ⟨⟨⟨rfl, rfl, rfl, rfl⟩, rfl⟩, ⟨⟨rfl, rfl, rfl, rfl⟩, rfl⟩,
        ⟨⟨rfl, rfl, rfl, rfl⟩, rfl⟩, ⟨⟨rfl, rfl, rfl, rfl⟩, rfl⟩, ⟨⟨rfl, rfl, rfl, rfl⟩, rfl⟩, ⟨⟨rfl, rfl, rfl, rfl⟩, rfl⟩,
          rfl, by decide, by decide⟩

theorem witness_InterpreterActsOnEveryByte_codes :
    (∀ b ∈ [(0x01 : Byte), 0x02, 0x04, 0x06, 0x07, 0x08, 0x0E, 0x0F, 0x10, 0x11, 0x00, 0x1F, 0x7F, 0xFF, 0x20],
        (at_ 31 64 id [b]).Ready) ∧
    (at_ 0 0 id [0x05]).Ready ∧ (at_ 0 0 id [0x05, 63]).Ready ∧ (at_ 0 0 id [0x05, 64]).Ready ∧
    (at_ 0 0 (fun o => { o with colPending := true }) [63]).Ready ∧ (at_ 31 64 id [0x20]).ocu.col = 64 :=
  ⟨fun _ _ => ⟨⟨rfl, rfl, rfl, rfl⟩, rfl⟩, ⟨⟨rfl, rfl, rfl, rfl⟩, rfl⟩, ⟨⟨rfl, rfl, rfl, rfl⟩, rfl⟩, ⟨⟨rfl, rfl, rfl, rfl⟩,
    rfl⟩, ⟨⟨rfl, rfl, rfl, rfl⟩, rfl⟩, rfl⟩

/-- A screen that shows what the state is: nothing is left to send. -/
theorem witness_RefresherSendsTheFirstChangedRow :
    active.Ready ∧ active.ocu.portRow = none ∧ (∃ r rest, active.ocu.changed = r :: rest) ∧
    (ocu (fun o => { o with portRow := some (19, []) }) active).Ready ∧
    (ocu (fun o => { o with screen := active.render, changed := [] }) active).Ready ∧
    ∀ r, (ocu (fun o => { o with screen := active.render, changed := [] }) active).ocu.screen.getD r [] =
      (ocu (fun o => { o with screen := active.render, changed := [] }) active).render.getD r [] :=
  ⟨⟨⟨rfl, rfl, rfl, rfl⟩, rfl⟩, rfl, ⟨0, _, rfl⟩, ⟨⟨rfl, rfl, rfl, rfl⟩, rfl⟩, ⟨⟨rfl, rfl, rfl, rfl⟩, rfl⟩, fun _ => rfl⟩

/-- An opening begun on taking up the duty. -/
def takingUp (s : State) : State := tmu (fun t => { t with openTakeUp := true }) s

/-- R124, R125: with the window in the clamp-open set already, an opening by R125 is reported and one at take-up is not. -/
theorem test_open_reported :
    let s := clamped .opening .home (inState .active { table fresh with phase := .moving, clampSet := 1 })
    (leads (exec (.clampOpenSensed lv) s) fun t => t.tmu.clamp = .opened ∧ (t.lnk.queue.map (·.note)) = [.clampOpen 0]) ∧
    leads (exec (.clampOpenSensed lv) (takingUp s)) fun t => t.tmu.clamp = .opened ∧ t.lnk.queue = [] :=
  ⟨⟨_, rfl, rfl, rfl⟩, ⟨_, rfl, rfl, rfl⟩⟩

/-- R102, R104: at takt expiry an entry behind the cursor that is marked DROP leaves without a report. -/
theorem test_dropped_not_released :
    leads (exec .taktExpiry (expiring .running [claim, { claim with unit := 0, mark := .drop }] (some started)
      (some ⟨firstWire, 3, 100⟩))) fun t => t.bsq.work.length = 1 ∧ t.lnk.queue = [] := ⟨_, rfl, rfl, rfl⟩

theorem witness_ClampAndBeamMotionsEnd :
    (∀ c b, (clamped c b active).Ready ∧ (clamped c b listen).Ready) ∧ active.ownWindow = some 0 ∧
    active.table = some (table fresh) ∧ (table fresh).clampSet.getLsbD 0 = false ∧ listen.ownWindow = none ∧
    (takingUp (clamped .opening .moving (inState .active { table fresh with phase := .moving, clampSet := 1 }))).Ready ∧
    ({ table fresh with phase := .moving, clampSet := 1 } : Table).clampSet.getLsbD 0 = true ∧
    (∀ x, x ≠ ClampSt.opening → (clamped x .home active).tmu.clamp ≠ .opening) ∧
    (clamped .opened .fault active).tmu.beam = .fault ∧ lv.beamJam = false ∧ { lv with beamJam := true }.beamJam = true :=
  ⟨fun c b => ⟨⟨⟨rfl, rfl, rfl, rfl⟩, rfl⟩, ⟨⟨rfl, rfl, rfl, rfl⟩, rfl⟩⟩, rfl, rfl, by decide, rfl, ⟨⟨rfl, rfl, rfl, rfl⟩,
    rfl⟩, by decide, fun x h => h, rfl, rfl, rfl⟩

/-- A motion whose duty was given up meanwhile, and one whose duty was lost to a conflict, in ACTIVE. -/
theorem witness_ClampAndBeamMotionsEnd_mute :
    (∀ y c b, (tmu (fun t => { t with feedMute := y }) (clamped c b active)).Ready) ∧ active.lnk.st = .active ∧
    active.tmu.feedMute = false ∧ active.table = some (table fresh) :=
  ⟨fun y c b => ⟨⟨rfl, rfl, rfl, rfl⟩, rfl⟩, rfl, rfl, rfl⟩

/-- R124: behind a duty given up the beam ends with no note, and a push leaves its pusher IDLE with its record; a push whose
duty was lost to a conflict is reported. -/
theorem test_mute :
    let s := fun (y : Bool) => tmu (fun t => { t with feedMute := y, beam := .moving, pushIn := ⟨.pushing, some ⟨1, .input, 0⟩⟩ }) active
    (∀ y, leads (exec (.beamDone lv) (s y)) fun t => t.tmu.beam = .home ∧ (t.lnk.queue = [] ↔ y = true)) ∧
    (leads (exec (.pushDone .input) (s true)) fun t => t.tmu.pushIn = ⟨.idle, some ⟨1, .input, 0⟩⟩ ∧ t.lnk.queue = []) ∧
    leads (exec (.pushDone .input) (s false)) fun t => (t.lnk.queue.map (·.note)) = [.load 1 2] :=
  ⟨fun y => by cases y <;> exact ⟨_, rfl, rfl, by decide +kernel⟩, ⟨_, rfl, rfl, rfl⟩, ⟨_, rfl, rfl⟩⟩

/-- A push under way, in a station state. -/
def pushing (st : StState) (x : PushSt) : State :=
  tmu (fun t => { t with pushIn := ⟨x, some ⟨1, .input, 0⟩⟩, pushOut := ⟨x, some ⟨1, .reject, 1⟩⟩ }) (inState st { table fresh with railOut := some fresh })

/-- The unload duties held, one elevator in a state. -/
def elevator (m : MagName) (duty : Bool) (e : Elev) : State :=
  tmu (fun t => { t.setElev m e with feedDuty := duty, unloadDuty := duty }) active

/-- Every elevator in every state, of a plan with two slots and of one with a single slot; a push under way at it. -/
theorem witness_ElevatorsHomeScanAndSeek :
    (∀ m d st c g w n, (elevator m d ⟨st, c, g, [true], 9, w, n, 10⟩).Ready) ∧
    active.su.held = some plan ∧ (∀ m, 1 < plan.slots m) ∧ (∀ m, active.pushesAt m = none) ∧
    active.table = some (table fresh) ∧
    (∀ m d e, (su (fun u => { u with held := some { plan with slotsInput := 1, slotsGood := 1, slotsReject := 1 } })
      (elevator m d e)).Ready) ∧
    (∀ m, Plan.slots { plan with slotsInput := 1, slotsGood := 1, slotsReject := 1 } m ≤ 1) ∧
    (∀ st ∈ [StState.active, .heldCheck], (pushing st .pushing).Ready ∧ (pushing st .pushing).pushesAt .input = some .input ∧
      (pushing st .pushing).pushesAt .reject = some .output) := by
  refine ⟨fun m d st c g w n => ⟨⟨rfl, rfl, rfl, rfl⟩, rfl⟩, rfl, ?_, ?_, rfl, fun m d e => ⟨⟨rfl, rfl, rfl, rfl⟩, rfl⟩, ?_, ?_⟩
  · intro m
    cases m <;> decide
  · intro m
    cases m <;> rfl
  · intro m
    cases m <;> decide
  · intro st h
    simp only [List.mem_cons, List.not_mem_nil, or_false] at h
    rcases h with rfl | rfl <;> exact ⟨⟨⟨rfl, rfl, rfl, rfl⟩, rfl⟩, rfl, rfl⟩

/-- The last slot of a scan whose duty was lost by R35, and of one whose duty was given up; a push at a muted elevator. -/
theorem witness_ElevatorsHomeScanAndSeek_mute :
    (∀ m d e x y, (tmu (fun t => { t with feedMute := x, unloadMute := y }) (elevator m d e)).Ready) ∧
    (∀ x y, (tmu (fun t => { t with feedMute := x, unloadMute := y }) (pushing .active .pushing)).Ready) ∧
    (∀ m, (elevator m false ⟨.scanning, some 0, none, [true], 9, false, 2, 10⟩).tmu.onDuty m = false) ∧
    (10 : Nat) ≤ 9 + 1 ∧ (2 : Nat) ≤ 0 + 2 :=
  ⟨fun m d e x y => ⟨⟨rfl, rfl, rfl, rfl⟩, rfl⟩, fun x y => ⟨⟨rfl, rfl, rfl, rfl⟩, rfl⟩, fun m => by cases m <;> rfl,
      by decide, by decide⟩

/-- A homing that comes to its step limit in step 1 of a restart, the head HALTED, with the flash port busy and free. -/
def restHoming (m : MagName) (port : Option FlashOp) : State :=
  su (fun u => { u with run := .resting })
    (bsq (fun b => { b with st := .halted }) (rcu (fun r => { r with port := port })
      (tmu (fun t => t.setElev m ⟨.homing, none, none, [], 39, false, 2, 10⟩) listen)))

/-- The homing that fails is a fault while the flash port is busy (R128), and idle when the self-check begins (R38). -/
theorem witness_ElevatorsHomeScanAndSeek_restart :
    (∀ m, ∀ port ∈ [none, some (FlashOp.erase 3)], (restHoming m port).Settled ∧ (restHoming m port).su.run = .resting ∧
      (restHoming m port).lnk.st = .listen ∧ ((restHoming m port).tmu.elev m).st = .homing ∧
      (elevLevels lv m).home = false ∧ ((restHoming m port).tmu.elev m).steps + 1 = (2 + 2) * 10 ∧
      (restHoming m port).ocu.alarms = []) ∧
    leads (exec (.elevatorStep .input lv) (restHoming .input (some (.erase 3)))) (fun t =>
      t.su.run = .resting ∧ t.tmu.elInput.st = .fault) ∧
    leads (exec (.elevatorStep .input lv) (restHoming .input none)) fun t =>
      t.su.run = .restartCheck ∧ t.tmu.elInput.st = .atSlot := by
  refine ⟨fun m port h => ?_, ⟨_, rfl, by decide +kernel, by decide +kernel⟩, _, rfl, by decide +kernel, by decide +kernel⟩
  simp only [List.mem_cons, List.not_mem_nil, or_false] at h
  rcases h with rfl | rfl <;> cases m <;> exact ⟨⟨rfl, rfl, rfl, rfl⟩, rfl, rfl, rfl, rfl, rfl, rfl⟩

/-- R124: a scan whose duty was lost by R35 sends its MAGAZINE LOADED and the elevator stands; one whose duty was given up sends
none. -/
theorem test_scan_off_duty :
    let s := fun (y : Bool) =>
      tmu (fun t => { t with feedMute := y }) (elevator .input false ⟨.scanning, some 0, none, [true], 9, false, 2, 10⟩)
    ∀ y, leads (exec (.elevatorStep .input lv) (s y)) fun t => t.tmu.elInput.st = .atSlot ∧ t.tmu.elInput.waiting = false ∧
      (t.lnk.queue.map (·.note)) = if y then [] else [.magazine 0 1 [1, 0]] :=
  fun y => by cases y <;> exact ⟨_, rfl, by decide +kernel, by decide +kernel, by decide +kernel⟩

/-- The feed and unload station of the plan, with a full input magazine and an empty good one. -/
def feeding (t : Table) : State :=
  tmu (fun t => { t with feedDuty := true, unloadDuty := true, beam := .home, elInput := ⟨.atSlot, some 1, some 1, [], 0, false, 2, 10⟩
                         elGood := ⟨.atSlot, some 1, some 1, [], 0, false, 2, 10⟩ })
    (su (fun u => { u with straps := ⟨0, .bond, true, true, false⟩ })
      (inState .active { t with magInput := ⟨1, [2, 1]⟩, magGood := ⟨1, [1, 0]⟩ }))

/-- R129: a LOAD takes the strip of the slot a SEEKING elevator makes for; it stands at the lowest slot still FULL at once. -/
theorem test_retarget :
    let f : Frame := { frame 0 .active 0 [.load 0 2] with flags := { HFlags.clear with feed := true } }
    let s := lnk (fun l => { l with line := .sending f.chars }) (tmu (fun t => { t with elInput := ⟨.seeking, some 1, some 0, [], 0, false, 2, 10⟩ })
      (feeding (table fresh)))
    let w := match s.ctu.rep with
      | some t => { s with ctu := { s.ctu with rep := some { t with magInput := ⟨1, [1, 1]⟩ } } }
      | none => s
    leads (exec (.readableFrameEnd f.chars lv) w) fun t =>
      (t.ctu.rep.map (·.magInput)) = some ⟨1, [2, 1]⟩ ∧ t.tmu.elInput.st = .atSlot ∧ t.tmu.elInput.cur = some 1 :=
  ⟨_, rfl, by decide +kernel, by decide +kernel, by decide +kernel⟩

theorem witness_PushersStartReportAndFail :
    (feeding (table fresh)).Ready ∧ (feeding (table fresh)).pushReady .input = some ⟨1, .input, 0⟩ ∧
    (feeding { table fresh with railOut := some good }).Ready ∧
    (feeding { table fresh with railOut := some good }).pushReady .output = some ⟨1, .good, 1⟩ ∧
    active.pushReady .input = none ∧ active.pushReady .output = none ∧ (∀ q ∈ active.lnk.waiting, q.producer ≠ .tmu) ∧
    (lnk (fun l => { l with queue := full.lnk.queue, waiting := [⟨.load 1 2, .tmu, false⟩] }) (feeding (table fresh))).Ready ∧
    (∀ x, (pushing .active x).Ready ∧ (pushing .resync x).Ready ∧ (pushing .heldCheck x).Ready) ∧
    (∃ e ∈ fresh.units, e.test = .pending) ∧ (∀ k, ((pushing .active .pushing).tmu.push k).st = .pushing) :=
  ⟨⟨⟨rfl, rfl, rfl, rfl⟩, rfl⟩, rfl, ⟨⟨rfl, rfl, rfl, rfl⟩, rfl⟩, by decide, rfl, rfl, by decide, ⟨⟨rfl, rfl, rfl, rfl⟩,
    rfl⟩, fun x => ⟨⟨⟨rfl, rfl, rfl, rfl⟩, rfl⟩, ⟨⟨rfl, rfl, rfl, rfl⟩, rfl⟩, ⟨⟨rfl, rfl, rfl, rfl⟩, rfl⟩⟩, by decide,
        fun k => by cases k <;> rfl⟩

/-- A push under way of a station that works, its note muted or not. -/
theorem witness_PushersStartReportAndFail_mute :
    ∀ y, (tmu (fun t => { t with feedMute := y, unloadMute := y }) (pushing .active .pushing)).Ready := fun y => ⟨⟨rfl, rfl, rfl, rfl⟩, rfl⟩

/-- The feed and unload duties held, both pushers as given, strips on the rails. -/
def rails (x y : Push) (o : Option Strip) : State :=
  let s := feeding { table fresh with railOut := o, railIn := some fresh }
  tmu (fun t => { t with pushIn := x, pushOut := y }) s

theorem witness_SeatedAndRemovedKeysSettlePushes :
    (∀ k x y o, (key k (rails x y o)).Ready) ∧ (∀ k x y o, (key k (rails x y o)).table.isSome = true) ∧
    (∀ e ∈ good.units, e.test ≠ .pending ∧ e.test ≠ .claimed) ∧ (rails ⟨.idle, none⟩ ⟨.idle,
        none⟩ (some good)).actsUnload = true ∧
    (rails ⟨.idle, none⟩ ⟨.idle, none⟩ none).actsFeed = true ∧ active.actsUnload = false ∧ active.actsFeed = false ∧
    (key 14 active).Ready ∧ (∀ k, (key k (pushing .heldCheck .fault)).Ready) ∧ (∀ k, (key k (pushing .active .fault)).Ready) ∧
    (pushing .active .fault).tmu.feedDuty = false ∧ (∃ e ∈ fresh.units, e.test = .pending) :=
  ⟨fun k x y o => ⟨⟨rfl, rfl, rfl, rfl⟩, rfl⟩, fun k x y o => rfl, by decide, rfl, rfl, rfl, rfl, ⟨⟨rfl, rfl, rfl, rfl⟩, rfl⟩,
    fun k => ⟨⟨rfl, rfl, rfl, rfl⟩, rfl⟩, fun k => ⟨⟨rfl, rfl, rfl, rfl⟩, rfl⟩, rfl, by decide⟩

/-- An output push fault of each magazine with OUT empty, the unload duty held. -/
theorem witness_SeatedAndRemovedKeysSettlePushes_empty :
    ∀ m, let s := key 13 (rails ⟨.idle, none⟩ ⟨.fault, some ⟨1, m, 1⟩⟩ none)
      s.Ready ∧ s.ocu.keyQ = [0x0D#8] ∧ s.tmu.unloadDuty = true ∧ s.lnk.st = .active ∧ (s.table.map (·.railOut)) = some none ∧
      s.tmu.pushIn.st ≠ .fault :=
  fun m => ⟨⟨⟨rfl, rfl, rfl, rfl⟩, rfl⟩, rfl, rfl, rfl, rfl, (by decide : PushSt.idle ≠ .fault)⟩

/-- A store with one block in each state, with the first record number that has no successor. -/
def blocks (l : List Block) (f : Rcu → Rcu) : State := rcu (fun r => f { r with blocks := l }) active

/-- A hand-off on a reservation and without one, of a new wire, of an open entry and of one under program; a pull result with
its entry open and without, the write queue with and without room, in each store state; strips that leave. -/
theorem witness_TraceRingJoinsPullsToTheirBonds :
    (∀ v ∈ [(⟨1, 1, 0, 1⟩ : Reservation), ⟨1, 1, 0, 2⟩], 0 < v.count) ∧
    (∀ b, (∀ e ∈ [traced b], e.writing = true ∨ e.outcome = none) ∧
      ([traced b].map fun e => (e.strip, e.unit, e.group, e.wire)).Nodup) ∧ (traced false).outcome = none ∧
    (List.replicate 8 body).length ≤ 8 ∧ [traced false] = [] ++ traced false :: [] := by decide

/-- R142, R143, R145: the entry made, joined, and not tested once its strip has left. -/
theorem test_trace :
    let r : Rcu := { Rcu.reset with store := .ready, resv := [⟨1, 1, 0, 2⟩] }
    let h := r.handOff 1 1 0 0 5 ⟨1, 2, 3, 4⟩ 0
    h = { r with ring := [traced false], resv := [⟨1, 1, 0, 1⟩] } ∧
    (h.joinPull ⟨0, 1, 1, 0, 0, 0, 0, 20, 1, 0⟩ 1 9).queue.length = 1 ∧
    ((h.stripLeft 1).ring.map (·.outcome)) = [some .notTested] ∧ h.room = 62 := by decide

/-- R139, R145: the strip of a WRITE_OFF leaves the traces of its wires not tested, one of an input slot too. -/
theorem test_write_off_ends_traces :
    ∀ pos ∈ [0, 1, 2], ((tellApplied plan true 0 (table fresh) (table fresh) (.writeOff 1 pos 0xFF)
      (rcu (fun r => { r with ring := [traced false] }) active)).rcu.ring.map (·.outcome)) = [some .notTested] := by decide +kernel

theorem witness_FlashPortStartsItsOperationsInOrder :
    (∀ l f, (blocks l f).Ready) ∧
    (let s := blocks [freeB, openB] (fun r => { r with queue := [body], newest := some 0xFFFFFFFD, retr := [⟨1, 2, 3, 1⟩] })
     s.rcu.port = none ∧ s.rcu.store = .ready ∧ s.rcu.owed = [] ∧ s.rcu.openBlock = some 1 ∧ s.rcu.lastKind ≠ .program) ∧
    (let s := blocks [freeB, { freeB with erases := 5 }] (fun r => { r with queue := [body], owed := [.badMark 1] })
     s.rcu.openBlock = none ∧ s.rcu.queue ≠ [] ∧ s.rcu.newest ≠ some 0xFFFFFFFE ∧ (∃ b ∈ s.rcu.blocks, b.st = .free) ∧
     ∀ j, Owed.opening j ∉ s.rcu.owed) ∧
    (let s := blocks [openB] (fun r => { r with owed := [.badMark 0, .opening 0] })
     s.rcu.owed = [.badMark 0] ++ .opening 0 :: [] ∧ ∀ j, Owed.opening j ∉ [Owed.badMark 0]) ∧
    (let s := blocks [⟨.erasing .due, 1, none, none, 0, none⟩, freeB] id
     s.rcu.owed = [] ∧ (s.rcu.blocks[0]?).map (·.st) = some (.erasing .due) ∧ (s.rcu.blocks.filter (·.st == .free)).length < 2) ∧
    (let s := blocks [⟨.erasing .due, 1, none, none, 0, none⟩, freeB, freeB] id
     2 ≤ (s.rcu.blocks.filter (·.st == .free)).length ∧ s.rcu.fetch = none ∧ s.rcu.retr = [] ∧ s.rcu.queue = []) ∧
    (let s := lnk (fun l => { l with queue := full.lnk.queue, waiting := [⟨.answer 1 2 3, .rcu, false⟩] })
       (blocks [openB] fun r => { r with retr := [⟨1, 2, 3, 0⟩] })
     s.Ready ∧ ∃ q ∈ s.lnk.waiting, q.producer = .rcu) ∧
    (let s := blocks [openB] (fun r => { r with
       newest := some 106, lastKind := .program, fetch := some ⟨1, 2, 100, 106, 255, 0, 255, 0, 0, false, 5, 106, 0, 0, 0, 0,
           false⟩ })
     s.rcu.locate 106 = some (0, 6) ∧ s.rcu.outRec.length < 4 ∧ ∀ b ∈ s.rcu.blocks, b.st ≠ .erasing .due) :=
  ⟨fun l f => ⟨⟨rfl, rfl, rfl, rfl⟩, rfl⟩, ⟨rfl, rfl, rfl, rfl, by decide⟩, ⟨rfl, by decide, by decide, by decide,
    fun j => by simp [blocks, rcu]⟩,
    ⟨rfl, fun j => by simp⟩, ⟨rfl, rfl, by decide⟩, ⟨by decide, rfl, rfl, rfl⟩, ⟨⟨⟨rfl, rfl, rfl, rfl⟩, rfl⟩, by decide⟩,
    ⟨rfl, by decide, by decide⟩⟩

/-- A FULL block of a sequence and a first number. -/
def fullB (q f : Nat) : Block := ⟨.full, 3, some q, some f, 1023, none⟩

/-- The cursor past the end; above the newest number with a record waiting and without; in a range; before one and behind the
last. -/
theorem witness_FlashPortStartsItsOperationsInOrder_cursor :
    let f := fun (c e : Nat) => (⟨1, 2, 100, e, 255, 0, 255, 0, 0, false, 5, c, 0, 0, 0, 0, false⟩ : Fetch)
    let s := fun (c e : Nat) (q : List RecBody) => blocks [{ openB with lim := some 102 }, freeB]
      (fun r => { r with newest := some 106, queue := q, fetch := some (f c e) })
    (∀ c e q, (s c e q).Ready ∧ (s c e q).rcu.port = none ∧ (s c e q).rcu.store = .ready ∧ (s c e q).rcu.outRec.length = 0 ∧
      (s c e q).rcu.fetch = some (f c e)) ∧
    (106 : Nat) < 107 ∧ (s 107 108 [body]).rcu.queue ≠ [] ∧
    (openB.first = some 100 ∧ openB.seq ≠ none ∧ (100 : Nat) ≤ 102) ∧
    (∀ k ≤ 99, ¬((100 : Nat) ≤ k)) ∧ ¬((103 : Nat) ≤ 102) :=
  ⟨fun c e q => ⟨⟨⟨rfl, rfl, rfl, rfl⟩, rfl⟩, rfl, rfl, rfl, rfl⟩, by decide, by decide, by decide, by decide, by decide⟩

/-- R151, R154: fewer than two FREE blocks with two FULL ones of one sequence number and of two; under WRAP, under STOP and
with an erase under way; the store READY and FULL, its alarm raised or not. -/
theorem witness_FlashPortStartsItsOperationsInOrder_choice :
    let s := fun (p : Bool) (l : List Block) (st : StoreSt) (a : List AlarmEntry) =>
      ocu (fun o => { o with alarms := a }) (su (fun u => { u with held := some { plan with stopPolicy := p } })
        (blocks l fun r => { r with store := st }))
    (∀ p l st a, (s p l st a).Ready ∧ (s p l st a).rcu.owed = [] ∧ (s p l st a).rcu.queue = [] ∧ (s p l st a).rcu.retr = [] ∧
      (s p l st a).rcu.fetch = none) ∧
    ([fullB 9 1, fullB 8 1, freeB].filter (·.st == .free)).length < 2 ∧
    (∀ b ∈ [fullB 9 1, fullB 8 1, freeB], ∀ e, b.st ≠ .erasing e) ∧ (fullB 8 1).seq.getD 0 < (fullB 9 1).seq.getD 0 ∧
    (leads (exec .flashOpStart (s false [fullB 9 1, fullB 8 1, freeB] .ready [])) fun t =>
      (t.rcu.blocks.map (·.st)) = [.full, .erasing .due, .free] ∧ t.rcu.store = .ready) ∧
    (leads (exec .flashOpStart (s true [fullB 9 1, freeB] .ready [])) fun t => t.rcu.store = .full) ∧
    leads (exec .flashOpStart (s true [freeB, freeB] .full [⟨.storeFull, .raised, 3, 1⟩])) fun t => t.rcu.store = .ready :=
  ⟨fun p l st a => ⟨⟨⟨rfl, rfl, rfl, rfl⟩, rfl⟩, rfl, rfl, rfl, rfl⟩, by decide, by simp [fullB, freeB], by decide, ⟨_, rfl,
      by decide +kernel, by decide +kernel⟩,
    ⟨_, rfl, by decide +kernel⟩, ⟨_, rfl, by decide +kernel⟩⟩

/-- R148, R153 with the worked example of section 8.2: behind a failed record program the header of the block now opened goes
out before the bad mark. -/
theorem test_opening_first :
    leads (exec .recordProgramFail (store (some (.record 1 7 107 (some 106))))) fun t =>
      leads (exec .flashOpStart t) fun u => u.rcu.port = some (.header (.opening 0)) ∧ u.rcu.owed = [.badMark 1] :=
  ⟨_, rfl, _, rfl, by decide +kernel, by decide +kernel⟩

/-- R150, R151: the block whose last slot is written is FULL at once; under WRAP, with no FREE block left, it is chosen for its
erase. -/
theorem test_full_block :
    let ends := fun (l : List Block) (st : BlockSt) => leads (exec .recordProgramDone (blocks l fun r => { r with
        queue := [body], newest := some 107, port := some (.record 0 1022 107 (some 106)) })) fun t =>
      ((t.rcu.blocks[0]?).map (·.st)) = some st
    ends [openB, freeB, freeB] .full ∧ ends [openB] (.erasing .due) :=
  ⟨⟨_, rfl, by decide +kernel⟩, ⟨_, rfl, by decide +kernel⟩⟩

theorem witness_RecordProgramEnds :
    let s := blocks [freeB,
        openB] (fun r => { r with queue := [body], newest := some 107, port := some (.record 1 1022 107 (some 106)) })
    s.Ready ∧ Memory.wf s.flash = true ∧ s.rcu.queue = body :: [] ∧ s.rcu.blocks[1]? = some openB ∧ s.rcu.store = .ready ∧
    (∀ e ∈ s.rcu.ring, e.writing = true ∨ e.outcome = none) ∧ s.rcu.fails = 0 ∧ (∃ x ∈ s.rcu.blocks, x.st = .free) ∧
    openB.st = .opened ∧ (rcu (fun r => { r with fails := 1 }) s).Ready ∧ s.ocu.alarms.length < 8 :=
  ⟨⟨⟨rfl, rfl, rfl, rfl⟩, rfl⟩, rfl, rfl, rfl, rfl, by decide, rfl, ⟨freeB, by decide, rfl⟩, rfl, ⟨⟨rfl, rfl, rfl, rfl⟩,
    rfl⟩, by decide⟩

/-- A queue of several records, entries waiting for a place, a fetch scanning at the second failure. -/
def waiting : State :=
  blocks [freeB, openB] (fun r => { r with
    queue := List.replicate 7 body, newest := some 107, port := some (.record 1 1022 107 (some 106)), fails := 1
    ring := [traced true, { traced false with wire := 1, outcome := some .notTested },
      { traced false with unit := 2, outcome := some .notTested }, { traced false with wire := 2 }]
    fetch := some ⟨1, 2, 100, 106, 255, 0, 255, 0, 0, false, 5, 103, 0, 0, 0, 0, false⟩ })

theorem witness_RecordProgramEnds_waiting : waiting.Ready ∧ Memory.wf waiting.flash = true ∧
    waiting.rcu.queue = body :: List.replicate 6 body ∧ waiting.rcu.blocks[1]? = some openB ∧ waiting.rcu.store = .ready ∧
    (∃ x ∈ waiting.rcu.blocks, x.st = .free) ∧ waiting.rcu.fails = 1 ∧ (waiting.rcu.fetch.map (·.closing)) = some false :=
  ⟨⟨⟨rfl, rfl, rfl, rfl⟩, rfl⟩, rfl, rfl, rfl, rfl, ⟨freeB, by decide, rfl⟩, rfl, rfl⟩

/-- R146, R153, R162: with two places free, both entries that wait enter the queue; at a second
failure the fetch closes with STORE_FAULT. -/
theorem test_waiting :
    (leads (exec .recordProgramDone waiting) fun t =>
      t.rcu.queue.length = 8 ∧ (t.rcu.ring.map (·.writing)) = [true, true, false]) ∧
    leads (exec .recordProgramFail waiting) fun t => t.rcu.outEnd = some (.fetchEnd 2 1 3 0 0 0 0) :=
  ⟨⟨_, rfl, by decide +kernel, by decide +kernel⟩, ⟨_, rfl, by decide +kernel⟩⟩

theorem witness_HeaderProgramsAndErasesEnd :
    (∀ o, (blocks [openB] (fun r => { r with port := some o })).Ready ∧
      (blocks [openB] (fun r => { r with port := some o })).rcu.port = some o ∧
      (blocks [openB] (fun r => { r with port := some o })).rcu.blocks[0]? = some openB ∧
      (blocks [openB] (fun r => { r with port := some o })).rcu.store = .ready ∧
      (blocks [openB] (fun r => { r with port := some o })).rcu.fails = 0) ∧
    openB.seq = some 9 ∧ openB.first = some 100 ∧ Memory.wf active.flash = true :=
  ⟨fun o => ⟨⟨⟨rfl, rfl, rfl, rfl⟩, rfl⟩, rfl, rfl, rfl, rfl⟩, rfl, rfl, rfl⟩

/-- A PULL record read back that meets a fetch of its kind, strip, verdict and force, and misses one of another. -/
theorem witness_RetractionsAndReadsEnd_meets :
    let bs := ({ body with kind := 1 } : RecBody).encode 0 106
    let f : Fetch := ⟨1, 2, 100, 106, 1, rd16 bs 6, 31, 3, rd16 bs 21, true, 1, 106, 0, 0, 0, 0, false⟩
    rd16 bs 61 = (crc16 (bs.take 61)).toNat ∧ bs.getD 63 0 = 0xFF#8 ∧ f.matchesRecord bs = true ∧
    ({ f with kinds := 6 } : Fetch).matchesRecord bs = false ∧
    ({ f with cmp := 2, value := rd16 bs 21 - 1 } : Fetch).matchesRecord bs = false := by
  decide +kernel

theorem witness_RetractionsAndReadsEnd :
    let l := List.replicate 63 freeB ++ [openB]
    (∀ x, (blocks l (fun r => { r with newest := some 106, port := some (.mark x true) })).Ready) ∧ l.length = 64 ∧
    (blocks l (fun r => { r with newest := some 106 })).rcu.locate 106 = some (63, 6) ∧
    (blocks l (fun r => { r with newest := some 106 })).rcu.locate 107 = none ∧
    (blocks l (fun r => { r with port := some (.read 63 6 true), newest := some 106, fetch := some ⟨1, 2, 100, 106, 255, 0, 255, 0, 0, false, 1, 106, 0, 0, 0, 0, false⟩ })).Ready :=
  ⟨fun x => ⟨⟨rfl, rfl, rfl, rfl⟩, rfl⟩, by decide, by decide +kernel, by decide +kernel, ⟨⟨rfl, rfl, rfl, rfl⟩, rfl⟩⟩

end Sys2Proof.Tests
end

section
/-! SUPPORT. The completion, SKIP and HOLD_OFF notes (R68 to R70, R72). Each of their judgements reads one condition off the
unit entry and the note, and its effect does not depend on what it read: the judgement is an `if` of one Bool and one table.
What the Bool means, in the words of the rule, is a lemma about unit entries. -/

namespace Sys2Proof.Machine

/-! ## Conditions on a unit entry -/

/-- Group g of unit u in window w is one the plan defines, CLAIMED by s (R68, R69). -/
def GroupHeld (p : Plan) (t : Table) (s w u g : Nat) : Prop :=
  u < p.units ∧ g < p.groupCount ∧ ∃ x e y, t.win? w = some x ∧ x.units[u]? = some e ∧
    e.groups[g]? = some y ∧ y.st = .claimed ∧ y.claimer = some s

/-- The test of unit u in window w is CLAIMED by s (R68, R69). -/
def TestHeld (p : Plan) (t : Table) (s w u : Nat) : Prop :=
  u < p.units ∧ ∃ x e, t.win? w = some x ∧ x.units[u]? = some e ∧ e.test = .claimed ∧ e.tester = some s

theorem claimedBy_iff (s : Nat) (y : GEntry) : y.claimedBy s = true ↔ y.st = .claimed ∧ y.claimer = some s := by
  simp [GEntry.claimedBy]

theorem testBy_iff (s : Nat) (e : UEntry) : e.testBy s = true ↔ e.test = .claimed ∧ e.tester = some s := by
  simp [UEntry.testBy]

theorem not_claimed_iff (e : UEntry) :
    (!e.claimed) = true ↔ (∀ y ∈ e.groups, y.st ≠ .claimed) ∧ e.test ≠ .claimed := by
  simp [UEntry.claimed]

/-- A unit entry of the plan is one of a strip that stands in the window. -/
theorem planUnit?_eq_some_iff (p : Plan) (t : Table) (w u : Nat) (e : UEntry) :
    planUnit? p t w u = some e ↔ u < p.units ∧ ∃ x, t.win? w = some x ∧ x.units[u]? = some e := by
  simp [planUnit?, Table.unit?, Option.bind_eq_some_iff]

theorem planUnit?_any_iff (p : Plan) (t : Table) (w u : Nat) (b : UEntry → Bool) :
    (planUnit? p t w u).any b = true ↔ u < p.units ∧ ∃ x e, t.win? w = some x ∧ x.units[u]? = some e ∧ b e = true := by
  simp only [Option.any_eq_true, planUnit?_eq_some_iff]
  constructor
  · rintro ⟨e, ⟨hu, x, hx, he⟩, hb⟩
    exact ⟨hu, x, e, hx, he, hb⟩
  · rintro ⟨hu, x, e, hx, he, hb⟩
    exact ⟨e, ⟨hu, x, hx, he⟩, hb⟩

theorem groupHeld_iff (p : Plan) (t : Table) (s w u g : Nat) :
    (planUnit? p t w u).any
        (fun e => decide (g < p.groupCount) && ((e.groups[g]?).map (GEntry.claimedBy s)).getD false) = true ↔
      GroupHeld p t s w u g := by
  simp only [planUnit?_any_iff, Bool.and_eq_true, decide_eq_true_eq, Option.getD_eq_iff, Option.map_eq_some_iff,
    claimedBy_iff, Bool.false_eq_true, and_false, or_false]
  constructor
  · rintro ⟨hu, x, e, hx, he, hg, y, hy, hc⟩
    exact ⟨hu, hg, x, e, y, hx, he, hy, hc⟩
  · rintro ⟨hu, hg, x, e, y, hx, he, hy, hc⟩
    exact ⟨hu, x, e, hx, he, hg, y, hy, hc⟩

theorem testHeld_iff (p : Plan) (t : Table) (s w u : Nat) :
    (planUnit? p t w u).any (UEntry.testBy s) = true ↔ TestHeld p t s w u := by
  simp only [planUnit?_any_iff, testBy_iff, TestHeld]

/-- A completion of a test asks for a code or a progress of 0 beside the claim. -/
theorem testHeld_zero_iff (p : Plan) (t : Table) (s w u n : Nat) :
    (planUnit? p t w u).any (fun e => e.testBy s && n == 0) = true ↔ TestHeld p t s w u ∧ n = 0 := by
  rw [← testHeld_iff]
  cases planUnit? p t w u <;> simp

/-- The progress that a RELEASE names lies between the recorded one and the wire count (R69). -/
theorem groupHeld_progress_iff (p : Plan) (t : Table) (s w u g n : Nat) :
    (planUnit? p t w u).any (fun e => (e.groups[g]?).any fun y =>
        decide (g < p.groupCount) && y.claimedBy s && decide (y.progress ≤ n) && decide (n ≤ p.wireCount g)) = true ↔
      GroupHeld p t s w u g ∧ n ≤ p.wireCount g ∧
        ∀ x e y, t.win? w = some x → x.units[u]? = some e → e.groups[g]? = some y → y.progress ≤ n := by
  rw [planUnit?_any_iff]
  simp only [Option.any_eq_true, Bool.and_eq_true, decide_eq_true_eq, claimedBy_iff]
  constructor
  · rintro ⟨hu, x, e, hx, he, y, hy, ⟨⟨hg, hc⟩, hlo⟩, hhi⟩
    refine ⟨⟨hu, hg, x, e, y, hx, he, hy, hc⟩, hhi, fun x' e' y' hx' he' hy' => ?_⟩
    obtain rfl : x = x' := Option.some.inj (hx.symm.trans hx')
    obtain rfl : e = e' := Option.some.inj (he.symm.trans he')
    obtain rfl : y = y' := Option.some.inj (hy.symm.trans hy')
    exact hlo
  · rintro ⟨⟨hu, hg, x, e, y, hx, he, hy, hc⟩, hhi, hlo⟩
    exact ⟨hu, x, e, hx, he, y, hy, ⟨⟨hg, hc⟩, hlo x e y hx he hy⟩, hhi⟩

/-- What a SKIP asks of its frame, its window and its unit (R70). -/
theorem skippable_iff (p : Plan) (c : NoteCtx) (t : Table) (w u : Nat) :
    (planUnit? p t w u).any
        (fun e => c.state == .active && decide (w < p.windows) && e.st == .opened && !e.claimed) = true ↔
      c.state = .active ∧ w < p.windows ∧ u < p.units ∧ ∃ x e, t.win? w = some x ∧ x.units[u]? = some e ∧
        e.st = .opened ∧ (∀ y ∈ e.groups, y.st ≠ .claimed) ∧ e.test ≠ .claimed := by
  simp only [planUnit?_any_iff, Bool.and_eq_true, beq_iff_eq, decide_eq_true_eq, not_claimed_iff]
  constructor
  · rintro ⟨hu, x, e, hx, he, ⟨⟨ha, hw⟩, ho⟩, hn⟩
    exact ⟨ha, hw, hu, x, e, hx, he, ho, hn⟩
  · rintro ⟨ha, hw, hu, x, e, hx, he, ho, hn⟩
    exact ⟨hu, x, e, hx, he, ⟨⟨ha, hw⟩, ho⟩, hn⟩

/-! ## Each judgement as one condition and one table -/

/-- A judgement takes effect with table t' exactly under a condition, and refuses the note otherwise. -/
def TakesEffect (r : Option Table) (ok : Prop) (t' : Table) : Prop := (ok → r = some t') ∧ (¬ok → r = none)

theorem takesEffect_of_eq_ite {r : Option Table} {b : Bool} {ok : Prop} {t' : Table}
    (hr : r = if b then some t' else none) (hb : b = true ↔ ok) : TakesEffect r ok t' := by
  subst hr
  constructor <;> simp +contextual [← hb]

section
variable (p : Plan) (c : NoteCtx) (t : Table) (w u n : Nat) {g : Nat}

theorem judgeDone_bonded (hg : g ≠ 4) :
    TakesEffect (judgeDone p c t w u g 0) (GroupHeld p t c.sender w u g)
      (t.mapUnit w u (UEntry.mapGroup g fun y => { y with st := .done, progress := p.wireCount g })) := by
  refine takesEffect_of_eq_ite ?_ (groupHeld_iff p t c.sender w u g)
  unfold judgeDone
  cases planUnit? p t w u <;> simp [hg]

theorem judgeDone_failed (hg : g ≠ 4) :
    TakesEffect (judgeDone p c t w u g 1) (GroupHeld p t c.sender w u g)
      (t.mapUnit w u fun e => { UEntry.mapGroup g (fun y => { y with st := .failed }) e with st := .failed }) := by
  refine takesEffect_of_eq_ite ?_ (groupHeld_iff p t c.sender w u g)
  unfold judgeDone
  cases planUnit? p t w u <;> simp [hg]

/-- Outcome codes above 1 are not defined. -/
theorem judgeDone_undefined_outcome (hg : g ≠ 4) (hn : 1 < n) : judgeDone p c t w u g n = none := by
  have h0 : n ≠ 0 := by omega
  have h1 : n ≠ 1 := by omega
  unfold judgeDone
  cases planUnit? p t w u <;> simp [hg, h0, h1]

theorem judgeDone_test :
    TakesEffect (judgeDone p c t w u 4 n) (TestHeld p t c.sender w u ∧ n = 0)
      (t.mapUnit w u fun e => { e with test := .done, tester := none, st := .tested }) := by
  refine takesEffect_of_eq_ite ?_ (testHeld_zero_iff p t c.sender w u n)
  unfold judgeDone
  cases planUnit? p t w u <;> rfl

theorem judgeRelease_group (hg : g ≠ 4) :
    TakesEffect (judgeRelease p c t w u g n)
      (GroupHeld p t c.sender w u g ∧ n ≤ p.wireCount g ∧
        ∀ x e y, t.win? w = some x → x.units[u]? = some e → e.groups[g]? = some y → y.progress ≤ n)
      (t.mapUnit w u (UEntry.mapGroup g fun y => { y with st := .pending, claimer := none, progress := n })) := by
  refine takesEffect_of_eq_ite ?_ (groupHeld_progress_iff p t c.sender w u g n)
  unfold judgeRelease
  cases planUnit? p t w u with
  | none => rfl
  | some e => cases he : e.groups[g]? <;> simp [hg, he]

theorem judgeRelease_test :
    TakesEffect (judgeRelease p c t w u 4 n) (TestHeld p t c.sender w u ∧ n = 0)
      (t.mapUnit w u fun e => { e with test := .pending, tester := none }) := by
  refine takesEffect_of_eq_ite ?_ (testHeld_zero_iff p t c.sender w u n)
  unfold judgeRelease
  cases planUnit? p t w u <;> rfl

theorem judgeSkip_takesEffect :
    TakesEffect (judgeSkip p c t w u)
      (c.state = .active ∧ w < p.windows ∧ u < p.units ∧ ∃ x e, t.win? w = some x ∧ x.units[u]? = some e ∧
        e.st = .opened ∧ (∀ y ∈ e.groups, y.st ≠ .claimed) ∧ e.test ≠ .claimed)
      (t.mapUnit w u fun e => { e with st := .skipped }) := by
  refine takesEffect_of_eq_ite ?_ (skippable_iff p c t w u)
  unfold judgeSkip
  cases planUnit? p t w u <;> rfl

theorem judgeHoldOff_takesEffect :
    TakesEffect (judgeHoldOff c t n) (n < 4 ∧ t.hold c.sender n = true) (t.setHold c.sender n false) :=
  takesEffect_of_eq_ite rfl (by simp)

end

/-- Settles O32: the judgement of each of the four notes, case by case of its group and code. -/
theorem completionSkipAndHoldNotesTakeTheirEffects : Obligations.CompletionSkipAndHoldNotesTakeTheirEffects := by
  intro p c t w u g n
  exact ⟨judgeDone_bonded p c t w u, judgeDone_failed p c t w u, judgeDone_undefined_outcome p c t w u n,
    judgeDone_test p c t w u n, judgeRelease_group p c t w u n, judgeRelease_test p c t w u n,
    judgeSkip_takesEffect p c t w u, judgeHoldOff_takesEffect c t n⟩

end Sys2Proof.Machine
end

section
/-! SUPPORT. The results of pulls (R109 to R119): the judgement of a PULL_RESULT as one condition and one table, the pull list
as a list without repeats, the pull memory as a count that rises to a wire's place in that list, and the one note that each
answer of the pull tester makes. -/

namespace Sys2Proof.Machine

/-! ## Verdicts (R114) -/

/-- The verdict goes with force, mode and class minimum, or is that of an outcome without a pull (R116, condition 5). -/
def VerdictFits (p : Plan) (n : PullNote) : Prop :=
  (1 ≤ n.mode ∧ n.mode ≤ 6 ∧ n.verdict = verdictOf n.mode n.force (p.minOf n.cls)) ∨
    (n.verdict = Verdict.noResult ∧ n.force = 0 ∧ n.mode = 0)

theorem verdictAgrees_iff (p : Plan) (n : PullNote) : verdictAgrees p n = true ↔ VerdictFits p n := by
  simp [verdictAgrees, VerdictFits, between, and_assoc]

theorem failing_iff (n : PullNote) : n.failing = true ↔ n.verdict = Verdict.failLow ∨ n.verdict = Verdict.failMode := by
  simp [PullNote.failing]

/-- A break of the wire or at its heel is judged by the force. -/
theorem verdictOf_wire_break (force minimum : Nat) :
    ∀ m ∈ [BreakMode.neck, .span, .heel],
      verdictOf (modeCode m) force minimum = if minimum ≤ force then Verdict.pass else Verdict.failLow := by
  simp [verdictOf, modeCode]

/-- A bond that lifts or peels fails whatever the force. -/
theorem verdictOf_lift (force minimum : Nat) :
    ∀ m ∈ [BreakMode.ballLift, .stitchLift, .padPeel], verdictOf (modeCode m) force minimum = Verdict.failMode := by
  simp [verdictOf, modeCode]

/-- The codes 1 to 6 are those of the break modes other than NONE (R179). -/
theorem exists_breakMode (k : Nat) (lo : 1 ≤ k) (hi : k ≤ 6) : ∃ m : BreakMode, m ≠ .none ∧ k = modeCode m := by
  interval_cases k
  exacts [⟨.neck, by decide, rfl⟩, ⟨.span, by decide, rfl⟩, ⟨.heel, by decide, rfl⟩, ⟨.ballLift, by decide, rfl⟩,
    ⟨.stitchLift, by decide, rfl⟩, ⟨.padPeel, by decide, rfl⟩]

/-! ## The judgement of a PULL_RESULT (R116, R118) -/

/-- The conditions of R116. -/
def PullResultFits (p : Plan) (c : NoteCtx) (t : Table) (n : PullNote) : Prop :=
  n.unit < p.units ∧ n.unit ∈ p.tests ∧ n.group < p.groupCount ∧ n.cls = p.cls n.group ∧ VerdictFits p n ∧
    ∃ x e y wr, t.win? n.win = some x ∧ x.id = n.strip ∧ x.units[n.unit]? = some e ∧ e.test = .claimed ∧
      e.tester = some c.sender ∧ e.groups[n.group]? = some y ∧ y.st = .done ∧ y.claimer = some n.bonder ∧
      p.wire? n.group n.wire = some wr ∧ wr.witness = true

/-- The conditions of R118. -/
def UntestableFits (p : Plan) (c : NoteCtx) (t : Table) (n : PullNote) : Prop :=
  n.unit < p.units ∧ n.unit ∈ p.tests ∧ t.phase = .opened ∧ n.wire = 0 ∧ n.bonder = 0xFF ∧
    n.cls = 0 ∧ n.force = 0 ∧ n.mode = 0 ∧ n.verdict = Verdict.noResult ∧
    ∃ seat x e, p.seatOf c.sender = some seat ∧ seat.pull = true ∧ seat.win = n.win ∧ t.win? n.win = some x ∧
      x.id = n.strip ∧ x.sampled = true ∧ x.units[n.unit]? = some e ∧ e.test = .pending ∧
      ∃ y ∈ e.groups, y.st = .failed ∨ y.st = .unknown

/-- The effect of R116: a failing verdict marks the strip and holds the class of the bonding station. -/
def pullEffect (t : Table) (n : PullNote) : Table :=
  if n.verdict = Verdict.failLow ∨ n.verdict = Verdict.failMode then
    { t with win := t.win.modify n.win (Option.map fun x => { x with pullFail := true })
             holds := t.holds ||| (1#32 <<< (4 * n.bonder + n.cls)) }
  else t

theorem someLost_iff (e : UEntry) : someLost e = true ↔ ∃ y ∈ e.groups, y.st = .failed ∨ y.st = .unknown := by
  simp [someLost]

/-- On the strip, the unit, the group and the wire a PULL_RESULT names, the model's test says what R116 asks. -/
theorem pullResultFits_iff (p : Plan) (c : NoteCtx) (t : Table) (n : PullNote) :
    (t.win? n.win).any (fun x => (planUnit? p t n.win n.unit).any fun e => (e.groups[n.group]?).any fun g =>
        (p.wire? n.group n.wire).any fun wr =>
          x.id == n.strip && p.tests.contains n.unit && e.testBy c.sender && decide (n.group < p.groupCount) &&
          g.st == .done && wr.witness && g.claimer == some n.bonder && n.cls == p.cls n.group && verdictAgrees p n) = true ↔
      PullResultFits p c t n := by
  simp only [Option.any_eq_true, planUnit?_eq_some_iff, Bool.and_eq_true, beq_iff_eq, decide_eq_true_eq,
    List.contains_iff_mem, testBy_iff, verdictAgrees_iff, and_assoc]
  constructor
  · rintro ⟨x, hx, e, hu, ⟨x', hx', he⟩, y, hy, wr, hwr, hid, hmem, htest, htester, hg, hst, hwit, hcl, hcls, hv⟩
    obtain rfl : x = x' := Option.some.inj (hx.symm.trans hx')
    exact ⟨hu, hmem, hg, hcls, hv, x, e, y, wr, hx, hid, he, htest, htester, hy, hst, hcl, hwr, hwit⟩
  · rintro ⟨hu, hmem, hg, hcls, hv, x, e, y, wr, hx, hid, he, htest, htester, hy, hst, hcl, hwr, hwit⟩
    exact ⟨x, hx, e, hu, ⟨x, hx, he⟩, y, hy, wr, hwr, hid, hmem, htest, htester, hg, hst, hwit, hcl, hcls, hv⟩

/-- On the strip, the unit and the seat of the sender, the model's test says what R118 asks. -/
theorem untestableFits_iff (p : Plan) (c : NoteCtx) (t : Table) (n : PullNote) :
    (t.win? n.win).any (fun x => (planUnit? p t n.win n.unit).any fun e => (p.seatOf c.sender).any fun seat =>
        t.phase == .opened && seat.pull && seat.win == n.win && x.id == n.strip && x.sampled && p.tests.contains n.unit &&
        e.test == .pending && someLost e && n.wire == 0 && n.bonder == 0xFF && n.cls == 0 && n.force == 0 &&
        n.mode == 0 && n.verdict == Verdict.noResult) = true ↔
      UntestableFits p c t n := by
  simp only [Option.any_eq_true, planUnit?_eq_some_iff, Bool.and_eq_true, beq_iff_eq, List.contains_iff_mem,
    someLost_iff, and_assoc]
  constructor
  · rintro ⟨x, hx, e, hu, ⟨x', hx', he⟩, seat, hs, hph, hpull, hwin, hid, hsam, hmem, htest, hlost, hwire, hb, hcls,
      hf, hm, hv⟩
    obtain rfl : x = x' := Option.some.inj (hx.symm.trans hx')
    exact ⟨hu, hmem, hph, hwire, hb, hcls, hf, hm, hv, seat, x, e, hs, hpull, hwin, hx, hid, hsam, he, htest, hlost⟩
  · rintro ⟨hu, hmem, hph, hwire, hb, hcls, hf, hm, hv, seat, x, e, hs, hpull, hwin, hx, hid, hsam, he, htest, hlost⟩
    exact ⟨x, hx, e, hu, ⟨x, hx, he⟩, seat, hs, hph, hpull, hwin, hid, hsam, hmem, htest, hlost, hwire, hb, hcls, hf,
      hm, hv⟩

section
variable (p : Plan) (c : NoteCtx) (t : Table) (n : PullNote)

theorem judgePull_takesEffect : TakesEffect (judgePull p c t n) (PullResultFits p c t n) (pullEffect t n) := by
  have effect : (if n.failing then some ({ t with win := t.win.modify n.win (Option.map fun x =>
      { x with pullFail := true }) }.setHold n.bonder n.cls true) else some t) = some (pullEffect t n) := by
    rw [← apply_ite some]
    simp only [failing_iff, pullEffect, Table.setHold, if_true]
  refine takesEffect_of_eq_ite ?_ (pullResultFits_iff p c t n)
  unfold judgePull
  rw [effect]
  cases t.win? n.win with
  | none => rfl
  | some x =>
    cases planUnit? p t n.win n.unit with
    | none => rfl
    | some e => cases he : e.groups[n.group]? <;> cases hw : p.wire? n.group n.wire <;> simp [he]

theorem judgeUntestable_takesEffect :
    TakesEffect (judgeUntestable p c t n) (UntestableFits p c t n)
      (t.mapUnit n.win n.unit fun e => { e with test := .done, tester := none }) := by
  refine takesEffect_of_eq_ite ?_ (untestableFits_iff p c t n)
  unfold judgeUntestable
  cases t.win? n.win with
  | none => rfl
  | some x =>
    cases planUnit? p t n.win n.unit with
    | none => rfl
    | some e => cases p.seatOf c.sender <;> rfl

theorem judge_pullResult_of_group (hg : n.group ≠ 4) : judge p c t (.pullResult n) = judgePull p c t n := if_neg hg

theorem judge_pullResult_of_untestable (hg : n.group = 4) : judge p c t (.pullResult n) = judgeUntestable p c t n := if_pos hg

/-- A note that is not refused has the verdict of its force and mode. -/
theorem verdictFits_of_judge (h : judge p c t (.pullResult n) ≠ none) : VerdictFits p n := by
  by_contra hv
  refine h ?_
  by_cases hg : n.group = 4
  · rw [judge_pullResult_of_untestable p c t n hg]
    refine (judgeUntestable_takesEffect p c t n).2 fun hok => hv ?_
    obtain ⟨-, -, -, -, -, -, hforce, hmode, hverdict, -⟩ := hok
    exact .inr ⟨hverdict, hforce, hmode⟩
  · rw [judge_pullResult_of_group p c t n hg]
    refine (judgePull_takesEffect p c t n).2 fun hok => hv ?_
    obtain ⟨-, -, -, -, hfits, -⟩ := hok
    exact hfits

end

/-- Settles O35: the judgement by R116 and the one by R118, each taken apart at its group code. -/
theorem pullResultTakesEffectExactlyUnderItsConditions : Obligations.PullResultTakesEffectExactlyUnderItsConditions := by
  intro p c t n
  refine ⟨fun hg => ?_, fun hg => ?_, fun hg => ?_, fun hg => ?_⟩
  · rw [judge_pullResult_of_group p c t n hg]
    exact (judgePull_takesEffect p c t n).1
  · rw [judge_pullResult_of_group p c t n hg]
    exact (judgePull_takesEffect p c t n).2
  · rw [judge_pullResult_of_untestable p c t n hg]
    exact (judgeUntestable_takesEffect p c t n).1
  · rw [judge_pullResult_of_untestable p c t n hg]
    exact (judgeUntestable_takesEffect p c t n).2

/-! ## The pull list and the pull memory (R109 to R111, R119) -/

theorem Plan.pullList_eq (p : Plan) :
    p.pullList = (List.range p.groups.length).flatMap fun g =>
      ((List.range (p.wireCount g)).filter fun i => ((p.wire? g i).map (·.witness)).getD false).map fun i => (g, i) := by
  refine List.flatMap_congr fun g _ => congrArg (List.map _) ?_
  simp only [witnessIdx, Plan.wireCount, Plan.wire?]
  cases p.groups[g]? <;> rfl

/-- No wire stands in the pull list twice: within a group the indices differ, across groups the groups. -/
theorem Plan.pullList_nodup (p : Plan) : p.pullList.Nodup := by
  refine List.nodup_flatMap.2 ⟨fun g _ => ?_, List.nodup_range.imp fun {g g'} hne x hg hg' => hne ?_⟩
  · exact (List.nodup_range.filter _).map fun i j h => (Prod.mk.inj h).2
  · obtain ⟨_, -, rfl⟩ := List.mem_map.1 hg
    obtain ⟨_, -, h⟩ := List.mem_map.1 hg'
    exact (Prod.mk.inj h).1.symm

/-- A wire's place in the pull list is where the list holds it. -/
theorem Plan.idxOf?_pullList (p : Plan) (x : Nat × Nat) (i : Nat) (h : p.pullList[i]? = some x) :
    p.pullList.idxOf? x = some i := by
  obtain ⟨hi, hx⟩ := List.getElem?_eq_some_iff.1 h
  refine List.idxOf?_eq_some_iff.2 ⟨hi, hx, fun j hj hxj => hj.ne ?_⟩
  exact p.pullList_nodup.getElem_inj_iff.1 (hxj.trans hx.symm)

/-- The count of a unit whose entry is replaced by one of the strip is that of the new entry. -/
theorem Wsc.resulted_replaced (strip u count : Nat) (k : Wsc) :
    Wsc.resulted strip u { k with pulls := k.pulls.filter (fun m => !(m.unit == u)) ++ [⟨strip, u, count⟩] } = count := by
  have gone : (k.pulls.filter fun m => !(m.unit == u)).find? (fun m => m.strip == strip && m.unit == u) = none := by
    simp +contextual
  simp [Wsc.resulted, List.find?_append, gone]

/-- A result applied raises the count to one past the wire's place, and never lowers it. -/
theorem Wsc.resulted_remember (p : Plan) (n : PullNote) (k : Wsc) (i : Nat) (h : p.pullList[i]? = some (n.group, n.wire)) :
    (k.remember p n).resulted n.strip n.unit = max (k.resulted n.strip n.unit) (i + 1) := by
  unfold Wsc.remember
  rw [p.idxOf?_pullList _ i h]
  dsimp only
  split
  · next hlt => rw [Wsc.resulted_replaced, max_eq_right hlt.le]
  · next hge => rw [max_eq_left (Nat.le_of_not_lt hge)]

/-- Beside the pull memory, an applied result of a pull of this station moves nothing of the WSC: the join is the RCU's. -/
theorem tellApplied_pull_wsc (p : Plan) (sender : Nat) (t t' : Table) (n : PullNote) (s : State) (hg : n.group ≠ 4) :
    (tellApplied p true sender t t' (.pullResult n) s).wsc = s.wsc.remember p n := by
  simp only [tellApplied, pullApplied, hg, if_true, if_false]
  split <;> rfl

/-- A test starts at the first wire left, with no wire tried. -/
theorem startClaim_test (e : WorkEntry) (s : State) (hg : e.group = 4) :
    startClaim e s =
      { s with bsq := { s.bsq with cursor := some ⟨0, s.wsc.resulted e.strip e.unit, false, false⟩, retry := 0 } } := by
  simp [startClaim, hg]

theorem pullsLeft_eq (s : State) (p : Plan) (base : Nat) (hp : s.su.held = some p) :
    s.pullsLeft base = p.pullList.drop base := by
  simp [State.pullsLeft, hp]

/-! ## The answers of the pull tester (R112 to R115) -/

section
variable {s : State} {e : WorkEntry} {r : List WorkEntry} {cur : Cursor} {g i : Nat} {p : Plan}

theorem pullNote_eq (hp : s.su.held = some p) (force mode verdict : Nat) :
    s.pullNote e g i force mode verdict = .pullResult ⟨e.win, e.strip, e.unit, g, i,
      (s.table.bind fun t => (t.win? e.win).bind fun x => (x.units[e.unit]?).bind fun y =>
        (y.groups[g]?).bind (·.claimer)).getD 0xFF, p.cls g, force, mode, verdict⟩ := by
  simp [State.pullNote, Table.unit?, hp, Option.bind_assoc]

/-- The outcome of the wire at the cursor is one PULL_RESULT, and the cursor moves on. -/
theorem pullOutcome_at_cursor (hp : s.su.held = some p) (hwork : s.bsq.work = e :: r) (hcur : s.bsq.cursor = some cur)
    (hmark : e.mark ≠ .drop) (hwire : (p.pullList.drop cur.base)[cur.idx]? = some (g, i)) (res : Nat → Nat × Nat × Nat) :
    let x := res (p.minOf (p.cls g))
    pullOutcome res s = place .wsc (s.pullNote e g i x.1 x.2.1 x.2.2)
      { s with bsq := { s.bsq with cursor := some { cur with idx := cur.idx + 1, again := false }, retry := 0 } } := by
  simp only [pullOutcome, hwork, hcur, hmark, if_false, pullsLeft_eq s p _ hp, hwire, hp, Bsq.advance, Option.map_some,
    Option.getD_some]

/-- With no tries left a HOOK_MISS is an outcome without a pull. -/
theorem hookMissed_given_up (hp : s.su.held = some p) (hwork : s.bsq.work = e :: r) (hmark : e.mark ≠ .drop)
    (hlimit : p.retryLimit ≤ s.bsq.retry) : hookMissed s = pullOutcome (fun _ => (0, 0, Verdict.noResult)) s := by
  have : ¬ s.bsq.retry < s.retryLimit := by simpa [State.retryLimit, hp] using hlimit
  simp only [hookMissed, hwork, hmark, this, if_false]

theorem answerCmd_pulled (row col site height force : Nat) (mode : BreakMode) (s : State) :
    answerCmd (.hookPull row col site height) (.pulled force mode) s =
      pullOutcome (fun minimum => (force, modeCode mode, verdictOf (modeCode mode) force minimum)) (setHead .atWork s) := rfl

theorem answerCmd_hookMiss (row col site height : Nat) (s : State) :
    answerCmd (.hookPull row col site height) .hookMiss s = hookMissed (setHead .atWork s) := rfl

theorem minOf_eq (p : Plan) (k : Nat) : p.minOf k = (p.minForce[k]?).getD 0 := List.getD_eq_getElem?_getD

end

/-- Settles O34: each answer of the pull tester through the one outcome it makes, the pull memory through the place of a wire
in the pull list, the refusal through the conditions of R116 and R118. -/
theorem verdictFollowsForceAndBreakMode : Obligations.VerdictFollowsForceAndBreakMode := by
  unfold Obligations.VerdictFollowsForceAndBreakMode
  intro pulls resulted
  have hpulls : ∀ p, pulls p = p.pullList := fun p => p.pullList_eq.symm
  refine ⟨fun force minimum => ⟨verdictOf_wire_break force minimum, verdictOf_lift force minimum⟩, ?answers, ?left,
    fun s e => startClaim_test e s, ?memory, fun w strip u => ⟨_, rfl, rfl, rfl, rfl⟩, failing_iff, ?refusal⟩
  case answers =>
    intro s e r cur g i p hp hwork hcur hmark hwire bonder note moved
    rw [hpulls] at hwire
    have hnote := pullNote_eq (s := setHead .atWork s) (e := e) (g := g) (i := i) hp
    have outcome := pullOutcome_at_cursor (s := setHead .atWork s) hp hwork hcur hmark hwire
    constructor
    · intro row col site height force mode
      rw [answerCmd_pulled, outcome, hnote, minOf_eq]
      rfl
    · intro hlimit row col site height
      rw [answerCmd_hookMiss, hookMissed_given_up (s := setHead .atWork s) hp hwork hmark hlimit, outcome, hnote]
      rfl
  case left =>
    intro s p base hp
    rw [hpulls, pullsLeft_eq s p base hp]
  case memory =>
    intro p sender t t' n s i hg hplace
    rw [hpulls] at hplace
    rw [tellApplied_pull_wsc p sender t t' n s hg]
    exact s.wsc.resulted_remember p n i hplace
  case refusal =>
    intro p c t n h
    obtain ⟨lo, hi, hverdict⟩ | hnone := verdictFits_of_judge p c t n h
    · obtain ⟨m, hm, hmode⟩ := exists_breakMode n.mode lo hi
      exact .inr ⟨m, hm, hmode, hverdict⟩
    · exact .inl hnone

end Sys2Proof.Machine
end

section
/-! SUPPORT. The alarm list (R169, R170). Each operation acts on the oldest entry that passes a test: what it does is said
once, for the list cut at that entry. Raises that meet an end or an ACK are then two of these steps in a row. -/

namespace Sys2Proof.Machine

/-! ## The oldest entry that passes a test -/

/-- In the list `l`, cut as x, e, y, the entry e is the oldest that passes the test f. -/
structure OldestAt {α : Type} (f : α → Bool) (l x : List α) (e : α) (y : List α) : Prop where
  cut : l = x ++ e :: y
  before : ∀ b ∈ x, f b = false
  passes : f e = true

namespace OldestAt
variable {α : Type} {f : α → Bool} {l x : List α} {e : α} {y : List α}

theorem find? (h : OldestAt f l x e y) : l.find? f = some e :=
  List.find?_eq_some_iff_append.mpr ⟨h.passes, x, y, h.cut, fun b hb => by simp [h.before b hb]⟩

theorem any (h : OldestAt f l x e y) : l.any f = true :=
  List.any_eq_true.mpr ⟨e, List.mem_of_find?_eq_some h.find?, h.passes⟩

theorem dropFirst (h : OldestAt f l x e y) : dropFirst f l = x ++ y := by
  obtain ⟨rfl, hx, he⟩ := h
  induction x with
  | nil => simp [Machine.dropFirst, he]
  | cons b x ih =>
    obtain ⟨hb, hx⟩ := List.forall_mem_cons.mp hx
    simp [Machine.dropFirst, hb, ih hx]

theorem mapFirst (h : OldestAt f l x e y) (g : α → α) : mapFirst f g l = x ++ g e :: y := by
  obtain ⟨rfl, hx, he⟩ := h
  induction x with
  | nil => simp [Machine.mapFirst, he]
  | cons b x ih =>
    obtain ⟨hb, hx⟩ := List.forall_mem_cons.mp hx
    simp [Machine.mapFirst, hb, ih hx]

/-- A changed entry that still passes the test is the oldest of the changed list. -/
theorem changed (h : OldestAt f l x e y) (e' : α) (he : f e' = true) : OldestAt f (x ++ e' :: y) x e' y :=
  ⟨rfl, h.before, he⟩

end OldestAt

section
variable {l x : List AlarmEntry} {e : AlarmEntry} {y : List AlarmEntry} {a : Alarm}

theorem oldestAt_code (cut : l = x ++ e :: y) (hx : ∀ b ∈ x, b.code ≠ a) (he : e.code = a) :
    OldestAt (·.code == a) l x e y := ⟨cut, by simpa using hx, by simpa using he⟩

theorem oldestAt_acked (cut : l = x ++ e :: y) (hx : ∀ b ∈ x, b.st ≠ .acked) (he : e.st = .acked) :
    OldestAt (·.st == .acked) l x e y := ⟨cut, by simpa using hx, by simpa using he⟩

theorem oldestAt_unacked (cut : l = x ++ e :: y) (hx : ∀ b ∈ x, b.st = .acked) (he : e.st ≠ .acked) :
    OldestAt (·.st != .acked) l x e y := ⟨cut, by simpa using hx, by simpa using he⟩

theorem find?_code_eq_none (h : ∀ e ∈ l, e.code ≠ a) : l.find? (·.code == a) = none := by simpa using h

end

/-- An entry raised once more: its repeat count rises, holding at 255 (R169). -/
def AlarmEntry.again (e : AlarmEntry) : AlarmEntry := { e with repeats := min 255 (e.repeats + 1) }

@[simp] theorem AlarmEntry.again_st (e : AlarmEntry) : e.again.st = e.st := rfl

/-! ## Raise, end of the condition, ACK -/

namespace Ocu
variable {o : Ocu} {a : Alarm} {ix : Nat} {x : List AlarmEntry} {e : AlarmEntry} {y : List AlarmEntry}

theorem raise_of_listed (h : OldestAt (·.code == a) o.alarms x e y) (hst : e.st ≠ .clearedUnacked) :
    o.raise a ix = { o with alarms := x ++ e.again :: y } := by
  simp only [raise, h.find?, hst, if_false, h.mapFirst]
  rfl

theorem raise_of_clearedUnacked (h : OldestAt (·.code == a) o.alarms x e y) (hst : e.st = .clearedUnacked) :
    o.raise a ix = { o with alarms := x ++ y ++ [AlarmEntry.again { e with st := .raised, index := ix }] } := by
  simp only [raise, h.find?, hst, if_true, h.dropFirst]
  rfl

theorem raise_of_room (h : ∀ e ∈ o.alarms, e.code ≠ a) (room : o.alarms.length < 8) :
    o.raise a ix = { o with alarms := o.alarms ++ [⟨a, .raised, ix, 0⟩] } := by
  simp only [raise, find?_code_eq_none h, Config.alarmEntries, room, if_true]

theorem raise_of_full (h : ∀ e ∈ o.alarms, e.code ≠ a) (full : 8 ≤ o.alarms.length)
    (old : OldestAt (·.st == .acked) o.alarms x e y) :
    o.raise a ix = { o with alarms := x ++ y ++ [⟨a, .raised, ix, 0⟩] } := by
  simp only [raise, find?_code_eq_none h, Config.alarmEntries, full.not_gt, if_false, old.any, if_true, old.dropFirst]

theorem raise_of_full_unacked (h : ∀ e ∈ o.alarms, e.code ≠ a) (full : 8 ≤ o.alarms.length)
    (unacked : ∀ e ∈ o.alarms, e.st ≠ .acked) :
    o.raise a ix = { o with overflow := min 255 (o.overflow + 1) } := by
  have noneAcked : o.alarms.any (·.st == .acked) = false := by simpa using unacked
  simp only [raise, find?_code_eq_none h, Config.alarmEntries, full.not_gt, if_false, noneAcked, Bool.false_eq_true]
  rfl

theorem settleAlarm_of_raised (h : OldestAt (·.code == a) o.alarms x e y) (hst : e.st = .raised) :
    o.settleAlarm a = { o with alarms := x ++ { e with st := .clearedUnacked } :: y } := by
  simp only [settleAlarm, h.find?, hst, h.mapFirst]

theorem settleAlarm_of_acked (h : OldestAt (·.code == a) o.alarms x e y) (hst : e.st = .acked) :
    o.settleAlarm a = { o with alarms := x ++ y } := by
  simp only [settleAlarm, h.find?, hst, h.dropFirst]

theorem settleAlarm_of_clearedUnacked (h : OldestAt (·.code == a) o.alarms x e y) (hst : e.st = .clearedUnacked) :
    o.settleAlarm a = o := by
  simp only [settleAlarm, h.find?, hst]

theorem settleAlarm_of_unlisted (h : ∀ e ∈ o.alarms, e.code ≠ a) : o.settleAlarm a = o := by
  simp only [settleAlarm, find?_code_eq_none h]

theorem ack_of_raised (h : OldestAt (·.st != .acked) o.alarms x e y) (hst : e.st = .raised) :
    o.ack = { o with alarms := x ++ { e with st := .acked } :: y } := by
  simp only [ack, h.find?, hst, if_true, h.mapFirst]

theorem ack_of_clearedUnacked (h : OldestAt (·.st != .acked) o.alarms x e y) (hst : e.st = .clearedUnacked) :
    o.ack = { o with alarms := x ++ y } := by
  simp [ack, h.find?, hst, h.dropFirst]

theorem ack_of_all_acked (h : ∀ e ∈ o.alarms, e.st = .acked) : o.ack = o := by
  have noneLeft : o.alarms.find? (fun e => e.st != .acked) = none := by simpa using h
  simp only [ack, noneLeft]

@[simp] theorem ack_magIn (o : Ocu) : o.ack.magIn = o.magIn := by
  unfold ack; (repeat' split) <;> rfl
@[simp] theorem ack_magOut (o : Ocu) : o.ack.magOut = o.magOut := by
  unfold ack; (repeat' split) <;> rfl

/-! ## A raise that meets the end of the condition, or an ACK, of the same entry -/

theorem raise_settleAlarm_of_raised (h : OldestAt (·.code == a) o.alarms x e y) (hst : e.st = .raised) :
    ((o.settleAlarm a).raise a ix).alarms =
      x ++ y ++ [AlarmEntry.again { e with st := .raised, index := ix }] := by
  have still := h.changed { e with st := .clearedUnacked } h.passes
  rw [settleAlarm_of_raised h hst, raise_of_clearedUnacked still rfl]

theorem settleAlarm_raise_of_raised (h : OldestAt (·.code == a) o.alarms x e y) (hst : e.st = .raised) :
    ((o.raise a ix).settleAlarm a).alarms = x ++ AlarmEntry.again { e with st := .clearedUnacked } :: y := by
  have still := h.changed e.again h.passes
  rw [raise_of_listed h (by simp [hst]), settleAlarm_of_raised still (e.again_st.trans hst)]
  rfl

theorem settleAlarm_raise_of_acked (h : OldestAt (·.code == a) o.alarms x e y) (hst : e.st = .acked) :
    ((o.raise a ix).settleAlarm a).alarms = x ++ y := by
  have still := h.changed e.again h.passes
  rw [raise_of_listed h (by simp [hst]), settleAlarm_of_acked still (e.again_st.trans hst)]

/-- In either order of raise and ACK the entry is the oldest of its code and the oldest not ACKED. -/
theorem raise_ack_of_raised (h : OldestAt (·.code == a) o.alarms x e y) (hu : OldestAt (·.st != .acked) o.alarms x e y)
    (hst : e.st = .raised) : (o.ack.raise a ix).alarms = x ++ AlarmEntry.again { e with st := .acked } :: y := by
  have still := h.changed { e with st := .acked } h.passes
  rw [ack_of_raised hu hst, raise_of_listed still (by simp)]

theorem ack_raise_of_raised (h : OldestAt (·.code == a) o.alarms x e y) (hu : OldestAt (·.st != .acked) o.alarms x e y)
    (hst : e.st = .raised) : (o.raise a ix).ack.alarms = x ++ AlarmEntry.again { e with st := .acked } :: y := by
  have still := hu.changed e.again hu.passes
  rw [raise_of_listed h (by simp [hst]), ack_of_raised still (e.again_st.trans hst)]
  rfl

end Ocu

/-! ## The ACK key (R170, R177) -/

/-- A key at the head of the queue is taken and handed on. -/
theorem takeKey_of_head {c : Byte} {r : List Byte} {s : State} (hq : s.ocu.keyQ = c :: r) (hand : State → State) :
    takeKey c hand s = hand { s with ocu := { s.ocu with keyQ := r } } := by
  simp only [takeKey, hq, if_true]

theorem exec_keyAck (s : State) : exec .keyAck s = execKeyAck s := rfl

theorem exec_keyAck_of_ready {s : State} {r : List Byte} (h : s.Ready) (hq : s.ocu.keyQ = 0x01#8 :: r) :
    exec .keyAck s = .next (finish { s with ocu := Ocu.ack { s.ocu with keyQ := r } }) := by
  have ended := conclude_console s (Ocu.ack { s.ocu with keyQ := r }) h (Ocu.ack_magIn _) (Ocu.ack_magOut _)
  rw [exec_keyAck, execKeyAck, takeKey_of_head (c := 0x01) hq, ended]

/-- Settles O49: each clause is the operation of the console said for the list cut at the entry it acts on. -/
theorem alarmsAreRaisedSettledAndAcknowledged : Obligations.AlarmsAreRaisedSettledAndAcknowledged := by
  unfold Obligations.AlarmsAreRaisedSettledAndAcknowledged
  refine ⟨fun a s => ?raised, fun a s => ?ended, fun a ix o x e y cut hx he => ?met, fun s r hready hq => ?acknowledged⟩
  case raised =>
    have lift {o : Ocu} (h : s.ocu.raise a s.indexNow = o) : raise a s = { s with ocu := o } :=
      congrArg (fun o => { s with ocu := o }) h
    refine ⟨fun x e y cut hx he => ⟨fun hst => ?_, fun hst => ?_⟩, fun unlisted => ⟨fun room => ?_,
      fun full x e y cut hx he => ?_, fun full unacked => ?_⟩⟩
    · exact lift (Ocu.raise_of_listed (oldestAt_code cut hx he) hst)
    · subst he
      exact lift (Ocu.raise_of_clearedUnacked (oldestAt_code cut hx rfl) hst)
    · exact lift (Ocu.raise_of_room unlisted room)
    · exact lift (Ocu.raise_of_full unlisted full (oldestAt_acked cut hx he))
    · exact lift (Ocu.raise_of_full_unacked unlisted full unacked)
  case ended =>
    have lift {o : Ocu} (h : s.ocu.settleAlarm a = o) : clearAlarm a s = { s with ocu := o } :=
      congrArg (fun o => { s with ocu := o }) h
    refine ⟨fun x e y cut hx he => ?_, fun unlisted => lift (Ocu.settleAlarm_of_unlisted unlisted)⟩
    have listed := oldestAt_code cut hx he
    exact ⟨fun hst => lift (Ocu.settleAlarm_of_raised listed hst), fun hst => lift (Ocu.settleAlarm_of_acked listed hst),
      fun hst => lift (Ocu.settleAlarm_of_clearedUnacked listed hst)⟩
  case met =>
    have listed := oldestAt_code cut hx he
    refine ⟨fun hst => ⟨Ocu.raise_settleAlarm_of_raised listed hst, Ocu.settleAlarm_raise_of_raised listed hst⟩,
      Ocu.settleAlarm_raise_of_acked listed, fun hst hacked => ?_⟩
    have unacked := oldestAt_unacked cut hacked (by simp [hst])
    exact ⟨Ocu.raise_ack_of_raised listed unacked hst, Ocu.ack_raise_of_raised listed unacked hst⟩
  case acknowledged =>
    have lift {o : Ocu} (h : Ocu.ack { s.ocu with keyQ := r } = o) :
        exec .keyAck s = .next (finish { s with ocu := o }) := by
      rw [exec_keyAck_of_ready hready hq, h]
    refine ⟨fun x e y cut hx => ⟨fun hst => ?_, fun hst => ?_⟩, fun acked => lift (Ocu.ack_of_all_acked acked)⟩
    · exact lift (Ocu.ack_of_raised (oldestAt_unacked cut hx (by simp [hst])) hst)
    · exact lift (Ocu.ack_of_clearedUnacked (oldestAt_unacked cut hx (by simp [hst])) hst)

end Sys2Proof.Machine
end
